-- ==== Sys2Proof/Word.lean ====
section
/-! DEFINITION. The word types of the block (00_scope.md R10): a byte is 8 bits, an address and a word are 16 bits,
all unsigned, bit 0 the least significant. -/

namespace Sys2Proof

/-- An unsigned 8-bit value (R10). -/
abbrev Byte := BitVec 8

/-- An unsigned 16-bit address (R10, R60). -/
abbrev Addr := BitVec 16

/-- A 16-bit value moved by a word operation (R68). -/
abbrev Word16 := BitVec 16

end Sys2Proof
end

