-- ==== Sys2Proof/Config.lean ====
section
/-! DEFINITION. The parameters of a model of this block (00_scope.md R7) and its free values. `Config` holds the
parameters the spec leaves OPEN, as plain data that State carries and no step writes; every opaque constant below
is a value the spec calls a draw, an oracle answer or an open function, and nothing in Lean knows any of them. -/

namespace Sys2Proof

/-- Which controller, and which drive variant, is installed (R24, R30). -/
inductive Variant
  | sd
  | dd
  deriving DecidableEq, Repr, Inhabited

/-- The ten values of a drive's state tag (R28). -/
inductive DriveState
  | sectorScan
  | windowOpen
  | windowClose
  | readData
  | readCrc
  | readEnd
  | writeLeadin
  | writeData
  | writeCrc
  | writeEnd
  deriving DecidableEq, Repr, Inhabited

/-- The step direction latched for the next falling edge (R27, R242). -/
inductive StepDirection
  | inward
  | outward
  deriving DecidableEq, Repr, Inhabited

/-- The drive view of R32: all that a status byte may depend on (R33, constraint 1). -/
structure DriveView where
  diskPresent  : Bool
  sectorFlag   : Bool
  inWindow     : Bool
  syncDetected : Bool
  writeReady   : Bool
  writeProtect : Bool
  trackZero    : Bool
  sector       : Nat
  state        : DriveState
  imageDouble  : Bool
  orderDouble  : Bool
  orderSide    : BitVec 1
  motorOn      : Bool
  deriving DecidableEq, Repr, Inhabited

/-- The open parameters of R7 that are data. `escape…` holds each `escapeCount(s) - 1`, so that every value of the
structure has `escapeCount(s) ≥ 1` and every such family of counts is some value of it (`Config.escapeCount`).
`ticksPerSecond` is the unit of the host's timestamps, which R24 leaves open (assumption 16). -/
structure Config where
  openCount              : Nat
  closeCount             : Nat
  escapeReadData         : Nat
  escapeReadCrc          : Nat
  escapeReadEnd          : Nat
  escapeWriteLeadin      : Nat
  escapeWriteData        : Nat
  escapeWriteCrc         : Nat
  escapeWriteEnd         : Nat
  jitterMax              : Nat
  syncByte               : Byte
  ddSecondByteWhenSingle : Bool
  sfBitASd               : Fin 8
  sfBitBSd               : Fin 8
  sfBitADd               : Fin 8
  sfBitBDd               : Fin 8
  sfBitCDd               : Fin 8
  fwLo                   : Addr
  fwHi                   : Addr
  dispLo                 : Addr
  dispHi                 : Addr
  firmwareROM            : Vector Byte 256
  ticksPerSecond         : Nat
  deriving DecidableEq, Repr, Inhabited

/-- The parameters of the machine that is reset (R7): open, so free (assumption 2). -/
opaque Config.installed : Config

/-- The host's auto-commit flag before the host sets it (R7, R255; assumption 3). -/
opaque Config.powerOnAutoCommit : Bool

/-- The host's read-only flag of a unit before the host sets it (R7, R255; assumption 3). -/
opaque Config.powerOnReadOnly (unit : Nat) : Bool

/-- The byte drawn for a RAM address at the `clearMemory()` numbered `seed` (R23, R293). -/
opaque Config.ramDraw (seed address : Nat) : Byte

/-- The track drawn for a unit at a drive reset (R27, R290): any value in 0..34. -/
opaque Config.trackDraw (n unit : Nat) : Fin 35

/-- The sector drawn for a unit at a drive reset (R27, R290): any value in 0..9. -/
opaque Config.sectorDraw (n unit : Nat) : Fin 10

/-- The seed of the randomized delay (R183), taken modulo `jitterMax + 1` where it is used, so that the seed is
any value in 0..jitterMax. -/
opaque Config.jitterDraw (n : Nat) : Nat

/-- A result byte the spec leaves as a draw (R122, R152, R153, R156). -/
opaque Config.byteDraw (n : Nat) : Byte

/-- The video collaborator's answer to a firmware read of an address (R105). -/
opaque Config.firmwareByteDraw (n : Nat) (a : Addr) : Byte

/-- The video collaborator's answer to a display read of an address (R105). -/
opaque Config.screenByteDraw (n : Nat) (a : Addr) : Byte

/-- Whether a persist succeeds (R254). -/
opaque Config.persistDraw (n : Nat) : Bool

/-- The host's time at a dispatch (R281). -/
opaque Config.hostTime (n : Nat) : Nat

/-- The open part of `statusA_SD` (R33): every bit but the sector-flag bit, which `statusASd` fixes. -/
opaque Config.statusASdRaw (v : DriveView) : Byte

/-- The open part of `statusB_SD` (R33). -/
opaque Config.statusBSdRaw (v : DriveView) : Byte

/-- The open part of `statusA_DD` (R33). -/
opaque Config.statusADdRaw (v : DriveView) : Byte

/-- The open part of `statusB_DD` (R33). -/
opaque Config.statusBDdRaw (v : DriveView) : Byte

/-- The open part of `statusC_DD` (R33). -/
opaque Config.statusCDdRaw (v : DriveView) : Byte

end Sys2Proof
end

