-- ==== Sys2Proof/Syntax.lean ====
section
/-! DEFINITION. The operations of the block (30_encoding.md). `BusOp` is a bus operation as R80 gives it; `Instr` has
one constructor per row of spec/opcode_table.json; `HostOp` lists the host's moves (46_host_operations.md), which the
opcode table does not hold; `Event` is one step's input, a CPU bus operation or a host move (R8, R9). -/

namespace Sys2Proof

/-- A bus operation: kind, address and data (R80, R81). -/
inductive BusOp
  | readByte (a : Addr)
  | writeByte (a : Addr) (v : Byte)
  | readWord (a : Addr)
  | writeWord (a : Addr) (w : Word16)
  deriving DecidableEq, Repr

/-- One constructor per row of spec/opcode_table.json. The first four are the bus rows (R100 to R103); `sd…` are the
rows of an SD controller, with `x`, `d`, `b`, `p` the fields of R84; `dd…` are the rows of a DD controller, with the
fields of R87 and R88. `ddUndef mux low` is the command code `8 + low` (R157). -/
inductive Instr
  | rd (a : Addr)
  | wr (a : Addr) (v : Byte)
  | rdw (a : Addr)
  | wrw (a : Addr) (w : Word16)
  | sdProm (i : Byte)
  | sdProm1 (i : Byte)
  | sdWdata (v : Byte)
  | sdSel (x d b : Bool) (p : BitVec 2)
  | sdWrt (x d b : Bool) (p : BitVec 2)
  | sdStpff (x d b : Bool) (p : BitVec 2)
  | sdIntr (x d b : Bool) (p : BitVec 2)
  | sdNop (x d b : Bool) (p : BitVec 2)
  | sdRsf (x d b : Bool) (p : BitVec 2)
  | sdReset (x d b : Bool) (p : BitVec 2)
  | sdStpdir (x d b : Bool) (p : BitVec 2)
  | ddProm (i : Byte)
  | ddWdata (v : Byte)
  | ddOrder (den : Bool) (side : BitVec 1) (dir step : Bool) (ds : BitVec 4)
  | ddNop (mux : BitVec 4)
  | ddRsf (mux : BitVec 4)
  | ddIntr2 (mux : BitVec 4)
  | ddIntr3 (mux : BitVec 4)
  | ddBody (mux : BitVec 4)
  | ddMotor (mux : BitVec 4)
  | ddWrt (mux : BitVec 4)
  | ddReset (mux : BitVec 4)
  | ddUndef (mux : BitVec 4) (low : BitVec 3)
  deriving DecidableEq, Repr

/-- A disk image as the host hands it to `mount`: its bytes and its file name (R250). -/
structure DiskImage where
  bytes : List Byte
  name  : String
  deriving DecidableEq, Repr

/-- The three canonical sizes of "create blank disk" (R259). -/
inductive BlankSize
  | singleSidedSingleDensity
  | singleSidedDoubleDensity
  | doubleSidedDoubleDensity
  deriving DecidableEq, Repr

/-- The host's moves (R250 to R259). `mountFailed u` is a mount whose load failed (R251). In `reboot`, entry `k` of
`images` is the file for unit `k + 1`, absent where the host gives none (R256). -/
inductive HostOp
  | mount (u : Nat) (image : DiskImage)
  | mountFailed (u : Nat)
  | unmount (u : Nat)
  | commit (u : Nat)
  | setAutoCommit (on : Bool)
  | setReadOnly (u : Nat) (on : Bool)
  | reboot (variant : Variant) (images : List (Option DiskImage)) (clearRam : Bool)
  | motorPoll (now : Nat)
  | createBlank (size : BlankSize)
  deriving DecidableEq, Repr

/-- One input of the block: the CPU loop's next bus operation (R8) or a host move (R9). -/
inductive Event
  | bus (op : BusOp)
  | host (op : HostOp)
  deriving DecidableEq, Repr

end Sys2Proof
end

