-- ==== Sys2Proof/Machine/Operands.lean ====
section
/-! DEFINITION. Every operand form of the block is a field of a 16-bit address (30_encoding.md R90): the range test and
the second byte's address of the router, the fields of the controller formats CTL, SD-CMD, DD-ORDER and DD-CMD, and
the addresses the assembler forms of R95 stand for. -/

namespace Sys2Proof

/-- The floppy range `0xE800..0xEBFF`, inclusive (R61, R62). -/
def inFloppy (a : Addr) : Bool := 0xE800 ≤ a.toNat && a.toNat ≤ 0xEBFF

/-- The second byte's address of a word access: not wrapped at `0xFFFF` (R67). -/
def second (a : Addr) : Addr := if a = 0xFFFF#16 then 0xFFFF#16 else a + 1#16

/-- `w[7:0]`, written first (R65). -/
def lowByte (w : Word16) : Byte := w.extractLsb' 0 8

/-- `w[15:8]`, written second (R65). -/
def highByte (w : Word16) : Byte := w.extractLsb' 8 8

/-- `lo | (hi << 8)` (R65). -/
def wordOf (lo hi : Byte) : Word16 := hi ++ lo

/-- `(address >> 8) & 0x3` (R82). -/
def opType (a : Addr) : BitVec 2 := a.extractLsb' 8 2

/-- `address & 0xFF` (R82). -/
def params (a : Addr) : Byte := a.extractLsb' 0 8

/-- `params[7]` of an SD command: decoded by nothing (R84). -/
def sdX (q : Byte) : Bool := q.getLsbD 7

/-- `readShiftReg = params[6]` (R84). -/
def sdD (q : Byte) : Bool := q.getLsbD 6

/-- `gateBStatus = params[5]` (R84). -/
def sdB (q : Byte) : Bool := q.getLsbD 5

/-- `commandCode = params[4:2]` (R84). -/
def sdCmd (q : Byte) : BitVec 3 := q.extractLsb' 2 3

/-- `p = params[1:0]` (R84). -/
def sdP (q : Byte) : BitVec 2 := q.extractLsb' 0 2

/-- `p[0]`, the bit value of SD commands 2 and 7 (R84, R90). -/
def sdBit (p : BitVec 2) : Bool := p.getLsbD 0

/-- `MUX = params >> 4` (R88). -/
def ddMux (q : Byte) : BitVec 4 := q.extractLsb' 4 4

/-- `CMD = params & 0xF` (R88). -/
def ddCmd (q : Byte) : BitVec 4 := q.extractLsb' 0 4

/-- `DEN = params[7]` (R87). -/
def orderDen (q : Byte) : Bool := q.getLsbD 7

/-- `SIDE = params[6]` (R87). -/
def orderSideBit (q : Byte) : BitVec 1 := q.extractLsb' 6 1

/-- `DIR = params[5]` (R87). -/
def orderDir (q : Byte) : Bool := q.getLsbD 5

/-- `STEP = params[4]` (R87). -/
def orderStep (q : Byte) : Bool := q.getLsbD 4

/-- `DS = params[3:0]` (R87). -/
def orderDs (q : Byte) : BitVec 4 := q.extractLsb' 0 4

/-- The one-hot drive selection: exactly one bit selects a unit, everything else the sink (R154). -/
def oneHot (ds : BitVec 4) : Nat :=
  if ds = 0x1#4 then 1 else if ds = 0x2#4 then 2 else if ds = 0x4#4 then 3 else if ds = 0x8#4 then 4 else 0

/-- `1 << (u - 1)` for `u` in 1..4, and 0 for the sink (R95). -/
def oneHotInv (u : Nat) : BitVec 4 :=
  if u = 1 then 0x1#4 else if u = 2 then 0x2#4 else if u = 3 then 0x4#4 else if u = 4 then 0x8#4 else 0x0#4

/-- An address of the floppy range from its page byte and its low byte (R64, R82). -/
def pageAddr (page q : Byte) : Addr := page ++ q

/-- The low byte of an SD command (R84). -/
def sdParams (x d b : Bool) (cmd : BitVec 3) (p : BitVec 2) : Byte :=
  BitVec.ofBool x ++ BitVec.ofBool d ++ BitVec.ofBool b ++ cmd ++ p

/-- The low byte of a DD order (R87). -/
def orderParams (den : Bool) (side : BitVec 1) (dir step : Bool) (ds : BitVec 4) : Byte :=
  BitVec.ofBool den ++ side ++ BitVec.ofBool dir ++ BitVec.ofBool step ++ ds

/-- The low byte of a DD command (R88). -/
def ddParams (mux cmd : BitVec 4) : Byte := mux ++ cmd

/-- The command code `8 + low` of the undefined DD codes (R157). -/
def undefCode (low : BitVec 3) : BitVec 4 := 1#1 ++ low

/-- The bus address of an SD command (R95). -/
def sdAddr (x d b : Bool) (cmd : BitVec 3) (p : BitVec 2) : Addr := pageAddr 0xEB#8 (sdParams x d b cmd p)

/-- The bus address of a DD command (R95). -/
def ddAddr (mux cmd : BitVec 4) : Addr := pageAddr 0xEB#8 (ddParams mux cmd)

/-- The bus address of a DD order-register write (R95). -/
def orderAddr (den : Bool) (side : BitVec 1) (dir step : Bool) (ds : BitVec 4) : Addr :=
  pageAddr 0xEA#8 (orderParams den side dir step ds)

end Sys2Proof
end

