-- ==== Sys2Proof/WellFormed.lean ====
section
/-! DEFINITION. Which terms of `Instr` the decoder can answer for an installed controller: a row of the other
controller is none of its rows (R94, the opcode table's notes), and a byte read inside the floppy range is spelled by
its controller row, not by `rd` (assumption 14). -/

namespace Sys2Proof

/-- The controller an instruction belongs to: none for the four bus rows, which both have. -/
def Instr.needsVariant : Instr → Option Variant
  | .rd _ | .wr _ _ | .rdw _ | .wrw _ _ => none
  | .sdProm _ | .sdProm1 _ | .sdWdata _ | .sdSel _ _ _ _ | .sdWrt _ _ _ _ | .sdStpff _ _ _ _ | .sdIntr _ _ _ _
  | .sdNop _ _ _ _ | .sdRsf _ _ _ _ | .sdReset _ _ _ _ | .sdStpdir _ _ _ _ => some .sd
  | .ddProm _ | .ddWdata _ | .ddOrder _ _ _ _ _ | .ddNop _ | .ddRsf _ | .ddIntr2 _ | .ddIntr3 _ | .ddBody _
  | .ddMotor _ | .ddWrt _ | .ddReset _ | .ddUndef _ _ => some .dd

/-- The row belongs to the installed controller. -/
def Instr.variantOk (v : Variant) (i : Instr) : Bool :=
  match i.needsVariant with
  | none => true
  | some w => w == v

/-- A byte read spelled `rd` lies outside the floppy range. -/
def Instr.spellingOk : Instr → Bool
  | .rd a => !inFloppy a
  | .wr _ _ | .rdw _ | .wrw _ _ => true
  | .sdProm _ | .sdProm1 _ | .sdWdata _ | .sdSel _ _ _ _ | .sdWrt _ _ _ _ | .sdStpff _ _ _ _ | .sdIntr _ _ _ _
  | .sdNop _ _ _ _ | .sdRsf _ _ _ _ | .sdReset _ _ _ _ | .sdStpdir _ _ _ _ => true
  | .ddProm _ | .ddWdata _ | .ddOrder _ _ _ _ _ | .ddNop _ | .ddRsf _ | .ddIntr2 _ | .ddIntr3 _ | .ddBody _
  | .ddMotor _ | .ddWrt _ | .ddReset _ | .ddUndef _ _ => true

/-- A well-formed instruction of a machine whose installed controller is `v`. -/
def Instr.wf (v : Variant) (i : Instr) : Bool := i.variantOk v && i.spellingOk

end Sys2Proof
end

