-- ==== Sys2Proof/Decode.lean ====
section
/-! DEFINITION. Decoding a bus operation for the installed controller (30_encoding.md R80 to R94), and the encoder
written from the same formats (R95). `decodeOp` is total: every address is legal for every kind (R81). The byte
record below it, in which the address comes first as the opcode table numbers it, is the model's own layout of the
kind and the data, which the spec gives no bit positions (assumption 11). -/

namespace Sys2Proof

/-! ### From a bus operation to an instruction -/

/-- The SD command rows, by `params[4:2]` (R84, R85). -/
def decodeSdCmd (q : Byte) : Instr :=
  match (sdCmd q).toNat with
  | 0 => .sdSel (sdX q) (sdD q) (sdB q) (sdP q)
  | 1 => .sdWrt (sdX q) (sdD q) (sdB q) (sdP q)
  | 2 => .sdStpff (sdX q) (sdD q) (sdB q) (sdP q)
  | 3 => .sdIntr (sdX q) (sdD q) (sdB q) (sdP q)
  | 4 => .sdNop (sdX q) (sdD q) (sdB q) (sdP q)
  | 5 => .sdRsf (sdX q) (sdD q) (sdB q) (sdP q)
  | 6 => .sdReset (sdX q) (sdD q) (sdB q) (sdP q)
  | _ => .sdStpdir (sdX q) (sdD q) (sdB q) (sdP q)

/-- The SD rows, by opType (R83). -/
def decodeSd (t : BitVec 2) (q : Byte) : Instr :=
  match t.toNat with
  | 0 => .sdProm q
  | 1 => .sdProm1 q
  | 2 => .sdWdata q
  | _ => decodeSdCmd q

/-- The DD command rows, by `params[3:0]` (R88, R89); codes 8..15 are the undefined row (R157). -/
def decodeDdCmd (q : Byte) : Instr :=
  match (ddCmd q).toNat with
  | 0 => .ddNop (ddMux q)
  | 1 => .ddRsf (ddMux q)
  | 2 => .ddIntr2 (ddMux q)
  | 3 => .ddIntr3 (ddMux q)
  | 4 => .ddBody (ddMux q)
  | 5 => .ddMotor (ddMux q)
  | 6 => .ddWrt (ddMux q)
  | 7 => .ddReset (ddMux q)
  | _ => .ddUndef (ddMux q) (q.extractLsb' 0 3)

/-- The DD rows, by opType (R86). -/
def decodeDd (t : BitVec 2) (q : Byte) : Instr :=
  match t.toNat with
  | 0 => .ddProm q
  | 1 => .ddWdata q
  | 2 => .ddOrder (orderDen q) (orderSideBit q) (orderDir q) (orderStep q) (orderDs q)
  | _ => decodeDdCmd q

/-- A byte read: a controller row inside the floppy range (R82, R94), the row `RD` elsewhere. -/
def decodeRead (v : Variant) (a : Addr) : Instr :=
  if inFloppy a then
    match v with
    | .sd => decodeSd (opType a) (params a)
    | .dd => decodeDd (opType a) (params a)
  else .rd a

/-- The instruction a bus operation is on a machine with controller `v`. -/
def decodeOp (v : Variant) : BusOp → Instr
  | .readByte a => decodeRead v a
  | .writeByte a x => .wr a x
  | .readWord a => .rdw a
  | .writeWord a w => .wrw a w

/-! ### From an instruction to a bus operation -/

/-- The bus operation an instruction stands for (R95). -/
def encodeOp : Instr → BusOp
  | .rd a => .readByte a
  | .wr a v => .writeByte a v
  | .rdw a => .readWord a
  | .wrw a w => .writeWord a w
  | .sdProm i => .readByte (pageAddr 0xE8#8 i)
  | .sdProm1 i => .readByte (pageAddr 0xE9#8 i)
  | .sdWdata v => .readByte (pageAddr 0xEA#8 v)
  | .sdSel x d b p => .readByte (sdAddr x d b 0#3 p)
  | .sdWrt x d b p => .readByte (sdAddr x d b 1#3 p)
  | .sdStpff x d b p => .readByte (sdAddr x d b 2#3 p)
  | .sdIntr x d b p => .readByte (sdAddr x d b 3#3 p)
  | .sdNop x d b p => .readByte (sdAddr x d b 4#3 p)
  | .sdRsf x d b p => .readByte (sdAddr x d b 5#3 p)
  | .sdReset x d b p => .readByte (sdAddr x d b 6#3 p)
  | .sdStpdir x d b p => .readByte (sdAddr x d b 7#3 p)
  | .ddProm i => .readByte (pageAddr 0xE8#8 i)
  | .ddWdata v => .readByte (pageAddr 0xE9#8 v)
  | .ddOrder den side dir step ds => .readByte (orderAddr den side dir step ds)
  | .ddNop m => .readByte (ddAddr m 0#4)
  | .ddRsf m => .readByte (ddAddr m 1#4)
  | .ddIntr2 m => .readByte (ddAddr m 2#4)
  | .ddIntr3 m => .readByte (ddAddr m 3#4)
  | .ddBody m => .readByte (ddAddr m 4#4)
  | .ddMotor m => .readByte (ddAddr m 5#4)
  | .ddWrt m => .readByte (ddAddr m 6#4)
  | .ddReset m => .readByte (ddAddr m 7#4)
  | .ddUndef m low => .readByte (ddAddr m (undefCode low))

/-- The address a bus operation names: its byte, or the first byte of its word (R81). -/
def BusOp.addr : BusOp → Addr
  | .readByte a => a
  | .writeByte a _ => a
  | .readWord a => a
  | .writeWord a _ => a

/-- The address bits of an instruction, the word the opcode table's match and mask speak of. -/
def encodeAddr (i : Instr) : Addr := (encodeOp i).addr

/-! ### The byte record of a bus operation (assumption 11)
Byte 0 and byte 1 are the address, low byte first; byte 2 holds the kind in bits 1..0, numbered in the order of R81
(RB 0, WB 1, RW 2, WW 3), and zeros above; bytes 3 and 4 are the data, low byte first, zero where the kind has none. -/

/-- Why a record is no bus operation. -/
inductive DecodeError
  /-- Fewer than five bytes. -/
  | truncated
  /-- A bit of byte 2 above the kind is set. -/
  | reservedBits
  /-- Data on a read, or a byte write whose data is wider than a byte. -/
  | strayData
  deriving DecidableEq, Repr

/-- The record's kind byte and data for an operation. -/
def encodeBytes : BusOp → List Byte
  | .readByte a => [lowByte a, highByte a, 0#8, 0#8, 0#8]
  | .writeByte a v => [lowByte a, highByte a, 1#8, v, 0#8]
  | .readWord a => [lowByte a, highByte a, 2#8, 0#8, 0#8]
  | .writeWord a w => [lowByte a, highByte a, 3#8, lowByte w, highByte w]

/-- The bus operation of a record's fields. -/
def requestOf (a : Addr) (kind dataLo dataHi : Byte) : Except DecodeError BusOp :=
  match kind.toNat with
  | 0 => if dataLo = 0#8 ∧ dataHi = 0#8 then .ok (.readByte a) else .error .strayData
  | 1 => if dataHi = 0#8 then .ok (.writeByte a dataLo) else .error .strayData
  | 2 => if dataLo = 0#8 ∧ dataHi = 0#8 then .ok (.readWord a) else .error .strayData
  | 3 => .ok (.writeWord a (wordOf dataLo dataHi))
  | _ => .error .reservedBits

/-- A record's bus operation and the bytes after it. -/
def decodeRequest : List Byte → Except DecodeError (BusOp × List Byte)
  | aLo :: aHi :: kind :: dLo :: dHi :: rest =>
    match requestOf (wordOf aLo aHi) kind dLo dHi with
    | .ok op => .ok (op, rest)
    | .error e => .error e
  | _ => .error .truncated

/-- The instruction of a record on a machine with controller `v`: total on any bytes. -/
def decodeBytes (v : Variant) (bytes : List Byte) : Except DecodeError (Instr × List Byte) :=
  match decodeRequest bytes with
  | .ok (op, rest) => .ok (decodeOp v op, rest)
  | .error e => .error e

/-- The record of an instruction. -/
def encode (i : Instr) : List Byte := encodeBytes (encodeOp i)

/-! ### Words numbered as the opcode table numbers them (assumption 11)
The table's rows hold the 16 address bits alone. Bits 39..16 of a longer word are bytes 2 to 4 of the record, with bit
23, which the record keeps zero, telling the controller the word is meant for: 0 SD, 1 DD. -/

/-- Byte `k` of a number, as the record lays it out. -/
def byteAt (w k : Nat) : Byte := BitVec.ofNat 8 (w / 256 ^ k)

/-- The controller a table word is meant for. -/
def tableVariant (nbits w : Nat) : Variant := if (w % 2 ^ nbits).testBit 23 then .dd else .sd

/-- The bus operation of a table word: none if the word is longer than a record or is no record. -/
def tableRequest (nbits w : Nat) : Option BusOp :=
  let u := w % 2 ^ nbits
  if 40 < nbits then none
  else
    match decodeRequest [byteAt u 0, byteAt u 1, byteAt u 2 &&& 0x7F#8, byteAt u 3, byteAt u 4] with
    | .ok (op, _) => some op
    | .error _ => none

/-- The instruction the decoder reads from a table word. -/
def decodeTableWord (nbits w : Nat) : Option Instr :=
  (tableRequest nbits w).map (decodeOp (tableVariant nbits w))

/-- The table word of an instruction of controller `v`, 40 bits. -/
def encodeTableWord (v : Variant) (i : Instr) : Nat :=
  let byte (k : Nat) : Nat := ((encode i).getD k 0#8).toNat * 256 ^ k
  byte 0 + byte 1 + byte 2 + byte 3 + byte 4 + (match v with | .sd => 0 | .dd => 2 ^ 23)

end Sys2Proof
end

