-- ==== Sys2Proof/Machine/Parts.lean ====
section
/-! DEFINITION. The parts State is made of: a drive (10_state.md R27), the controller (R24, R25), RAM (R22, R23), the
fault record (R35, 60_exceptions.md R275), the calls the block makes to its collaborators (R105, R254), and the values
of a reset controller (70_reset_and_hazards.md R290). -/

namespace Sys2Proof.Machine

/-- A drive record (R27). `leadinSync` is R27's 0 or 1 (true is 1). -/
structure Drive where
  driveNumber        : Nat
  diskBuffer         : Option (List Byte)
  fileName           : Option String
  writeProtect       : Bool
  autoCommit         : Bool
  commitPending      : Bool
  imageDouble        : Bool
  currentTrack       : Nat
  currentSector      : Nat
  stepDirection      : StepDirection
  stepFlipFlop       : Bool
  sectorHoleDetected : Bool
  syncDetected       : Bool
  inWindow           : Bool
  writeReady         : Bool
  state              : DriveState
  stateCounter       : Nat
  crc                : Byte
  jitterArmed        : Bool
  jitterCount        : Nat
  xferOffset         : Nat
  xferRemaining      : Nat
  leadinSync         : Bool
  deriving DecidableEq, Repr

/-- The controller (R24), with the DD order fields (R25), which an SD controller leaves at their reset values. -/
structure Controller where
  variant           : Variant
  selectedDrive     : Nat
  firmwareROM       : Vector Byte 256
  motorsRunning     : Bool
  lastMotorActivity : Option Nat
  drives            : List Drive
  orderDouble       : Bool
  orderSide         : BitVec 1
  deriving DecidableEq, Repr

/-- RAM (R22): the listed cells over the background drawn at the `clearMemory()` numbered `seed` (R23; assumption
20). The canonical form is `Memory.wf`. -/
structure Memory where
  seed  : Nat
  cells : List Host.Cell
  deriving DecidableEq, Repr

/-- The drive operation an out-of-sequence fault names (R271). -/
inductive DriveOp
  | readByte
  | beginWrite
  | writeByte
  deriving DecidableEq, Repr

/-- The fault record's kinds and the information each holds (R275). -/
inductive FaultRecord
  /-- Code 1: SD `SEL 0` (R272). -/
  | selectUnitZero (addr : Addr)
  /-- Code 2: a drive call out of sequence (R271). -/
  | internalConsistency (op : DriveOp) (state : DriveState) (unit : Nat) (addr : Addr)
  /-- Code 3: a buffer index at or beyond the image's length (R273). -/
  | imageBounds (unit index : Nat) (addr : Addr)
  /-- Code 4: a DD command code 8..15 (R274). -/
  | undefinedCommand (addr : Addr)
  deriving DecidableEq, Repr

/-- A call the block makes to an external collaborator: the video subsystem (R105) or the filesystem (R254). -/
inductive HostCall
  | readFirmwareByte (a : Addr)
  | readScreenByte (a : Addr)
  | writeScreenByte (a : Addr) (v : Byte)
  | persist (u : Nat) (bytes : List Byte) (ok : Bool)
  deriving DecidableEq, Repr

/-- What the last bus operation returned: nothing (a write, or an operation a fault abandoned), a byte or a word
(R100 to R103, R270; assumption 9). -/
inductive BusResult
  | none
  | byte (b : Byte)
  | word (w : Word16)
  deriving DecidableEq, Repr

/-- `NUM_UNITS` (R7). -/
def numUnits : Variant → Nat
  | .sd => 3
  | .dd => 4

/-- Drive `unit` at its reset column (R27), with the track and the sector drawn; no disk. -/
def Drive.powerOn (unit : Nat) (writeProtect : Bool) (track sector : Nat) : Drive where
  driveNumber := unit
  diskBuffer := none
  fileName := none
  writeProtect := writeProtect
  autoCommit := false
  commitPending := false
  imageDouble := false
  currentTrack := track
  currentSector := sector
  stepDirection := .outward
  stepFlipFlop := false
  sectorHoleDetected := false
  syncDetected := false
  inWindow := false
  writeReady := false
  state := .sectorScan
  stateCounter := 0
  crc := 0
  jitterArmed := false
  jitterCount := 0
  xferOffset := 0
  xferRemaining := 0
  leadinSync := false

/-- Drive `unit` reset with the draws numbered `n` (R27, R290). -/
def Drive.drawn (unit : Nat) (writeProtect : Bool) (n : Nat) : Drive :=
  Drive.powerOn unit writeProtect (Config.trackDraw n unit).val (Config.sectorDraw n unit).val

/-- The read-only flag of a unit in the host's list of flags (R255). -/
def readOnlyOf (flags : List Bool) (unit : Nat) : Bool := flags.getD unit false

/-- A new controller, every field at its reset column, with the draws numbered `n` and no image mounted (R256,
R290). -/
def Controller.fresh (v : Variant) (rom : Vector Byte 256) (readOnly : List Bool) (n : Nat) : Controller where
  variant := v
  selectedDrive := 0
  firmwareROM := rom
  motorsRunning := false
  lastMotorActivity := none
  drives := (List.range (numUnits v + 1)).map fun u => Drive.drawn u (readOnlyOf readOnly u) n
  orderDouble := false
  orderSide := 0

end Sys2Proof.Machine
end

