-- ==== Sys2Proof/Machine/Drive.lean ====
section
/-! DEFINITION. One drive: rotation (43_drive_rotation.md), byte streaming, CRC and geometry (44_drive_transfer.md),
head stepping (45_drive_stepping.md). Every operation takes the drive and what it may read of the rest of the block
and answers the drive after it. -/

namespace Sys2Proof.Machine

/-- `escapeCount(s)` (R7): at least 1 in every transfer state. The scan states have no escape and no rule asks. -/
def escapeCount (cfg : Config) : DriveState → Nat
  | .readData => cfg.escapeReadData + 1
  | .readCrc => cfg.escapeReadCrc + 1
  | .readEnd => cfg.escapeReadEnd + 1
  | .writeLeadin => cfg.escapeWriteLeadin + 1
  | .writeData => cfg.escapeWriteData + 1
  | .writeCrc => cfg.escapeWriteCrc + 1
  | .writeEnd => cfg.escapeWriteEnd + 1
  | .sectorScan => 0
  | .windowOpen => 0
  | .windowClose => 0

/-- One of the three scan states (R28). -/
def isScan : DriveState → Bool
  | .sectorScan | .windowOpen | .windowClose => true
  | .readData | .readCrc | .readEnd | .writeLeadin | .writeData | .writeCrc | .writeEnd => false

/-! ### Rotation -/

/-- `Countdown(D, next, nextCount)` (R181). -/
def Drive.countdown (next : DriveState) (nextCount : Nat) (d : Drive) : Drive :=
  if d.stateCounter = 0 then { d with state := next, stateCounter := nextCount }
  else { d with stateCounter := d.stateCounter - 1 }

/-- `Advance(D)`: the sector-hole advance (R182). -/
def Drive.advance (cfg : Config) (d : Drive) : Drive :=
  { d with
    currentSector := (d.currentSector + 1) % 10
    crc := 0
    syncDetected := false
    sectorHoleDetected := true
    jitterArmed := false
    state := .windowOpen
    stateCounter := cfg.openCount }

/-- `ScanProbe(D)`: `SECTOR_SCAN` with `r = true`; `seed` is the drawn seed of the randomized delay (R183). -/
def Drive.scanProbe (cfg : Config) (seed : Nat) (d : Drive) : Drive :=
  if !d.jitterArmed then { d with jitterCount := seed % (cfg.jitterMax + 1), jitterArmed := true }
  else if 0 < d.jitterCount then { d with jitterCount := d.jitterCount - 1 }
  else d.advance cfg

/-- `WindowOpen(D)` (R185). -/
def Drive.stepWindowOpen (cfg : Config) (d : Drive) : Drive :=
  ({ d with writeReady := false, inWindow := true } : Drive).countdown .windowClose cfg.closeCount

/-- `WindowClose(D)` (R186). -/
def Drive.stepWindowClose (d : Drive) : Drive :=
  ({ d with syncDetected := true, inWindow := false } : Drive).countdown .sectorScan 0

/-- `Escape(D)` (R187). -/
def Drive.escape (d : Drive) : Drive := d.countdown .sectorScan 0

/-- `Update(D, r)` (R180, R184). -/
def Drive.update (cfg : Config) (r : Bool) (seed : Nat) (d : Drive) : Drive :=
  match d.state with
  | .sectorScan => if r then d.scanProbe cfg seed else d.advance cfg
  | .windowOpen => d.stepWindowOpen cfg
  | .windowClose => d.stepWindowClose
  | .readData | .readCrc | .readEnd | .writeLeadin | .writeData | .writeCrc | .writeEnd => d.escape

/-! ### Stepping -/

/-- `StepHead(D)` (R241). -/
def Drive.stepHead (d : Drive) : Drive :=
  match d.stepDirection with
  | .inward => { d with currentTrack := min (d.currentTrack + 1) 34 }
  | .outward => { d with currentTrack := max (d.currentTrack - 1) 0 }

/-- `setStepFlipFlop(D, bit)`: only the falling edge moves the head (R240, R243). -/
def Drive.setStepFlipFlop (bit : Bool) (d : Drive) : Drive :=
  let latched : Drive := { d with stepFlipFlop := bit }
  if d.stepFlipFlop && !bit then latched.stepHead else latched

/-- `setStepDirection(D, dir)` (R242). -/
def Drive.setStepDirection (dir : StepDirection) (d : Drive) : Drive := { d with stepDirection := dir }

/-- The direction a bit stands for: 1 inward, 0 outward (R132, R153). -/
def directionOf (bit : Bool) : StepDirection := if bit then .inward else .outward

/-! ### CRC, geometry and density -/

/-- `CrcStep(crc, b)`, through the 9-bit intermediate of R200. -/
def crcStep (crc b : Byte) : Byte :=
  let t := (crc ^^^ b).toNat <<< 1
  if 0xFF < t then BitVec.ofNat 8 ((t &&& 0xFF) + 1) else BitVec.ofNat 8 t

/-- `Classify(n)`: true is double density (R220). -/
def classifyDouble (n : Nat) : Bool := 100000 ≤ n && n < 400000

/-- `SectorSize(D)` (R202). -/
def Drive.sectorSize (v : Variant) (d : Drive) : Nat :=
  match v with
  | .sd => 256
  | .dd => if d.diskBuffer.isSome && d.imageDouble then 512 else 256

/-- `TrackIndex(side, t)` (R204). -/
def trackIndex (side : BitVec 1) (t : Nat) : Nat := if side = 0#1 then t else 69 - t

/-- `Offset(D)` (R203, R204). -/
def Drive.offset (v : Variant) (side : BitVec 1) (d : Drive) : Nat :=
  match v with
  | .sd => (d.currentTrack * 10 + d.currentSector) * 256
  | .dd => (trackIndex side d.currentTrack * 10 + d.currentSector) * d.sectorSize .dd

/-! ### Transfers -/

/-- What a drive operation reads outside its drive: the parameters, the controller's variant and order fields, the
host's auto-commit flag (R211) and whether a persist it starts succeeds (R254). -/
structure DriveEnv where
  cfg         : Config
  variant     : Variant
  orderDouble : Bool
  orderSide   : BitVec 1
  autoCommit  : Bool
  persistOk   : Bool
  deriving DecidableEq, Repr

/-- What a drive operation raises, with the fields the drive knows (R270). -/
inductive DriveFault
  | outOfSequence (op : DriveOp) (state : DriveState)
  | outOfImage (index : Nat)
  deriving DecidableEq, Repr

/-- How a drive operation ends: with an answer or with a fault, in both cases with the drive it leaves (R270: every
write made before a fault stands) and, for an answer, the call it made to the filesystem, if any. -/
inductive DriveDone (α : Type)
  | ok (answer : α) (d : Drive) (calls : List HostCall)
  | fault (f : DriveFault) (d : Drive)
  deriving DecidableEq, Repr

/-- `DensityMismatch(C, D)` on a DD drive (R159); never on an SD drive. -/
def densityMismatch (env : DriveEnv) (d : Drive) : Bool :=
  match env.variant with
  | .sd => false
  | .dd => env.orderDouble && d.diskBuffer.isSome && !d.imageDouble

/-- `Storing(D)` (R219). -/
def Drive.storing (d : Drive) : Bool := d.diskBuffer.isSome && !d.writeProtect

/-- `StartRead(D)` (R206). -/
def Drive.startRead (env : DriveEnv) (d : Drive) : Drive :=
  { d with
    xferOffset := d.offset env.variant env.orderSide
    xferRemaining := d.sectorSize env.variant
    crc := 0
    state := .readData }

/-- The bookkeeping of `ReadData(D)` once its byte is known (R207). -/
def Drive.streamed (cfg : Config) (b : Byte) (d : Drive) : Drive :=
  let next : DriveState := if d.xferRemaining - 1 = 0 then .readCrc else d.state
  { d with
    crc := crcStep d.crc b
    xferRemaining := d.xferRemaining - 1
    state := next
    stateCounter := escapeCount cfg next }

/-- `ReadData(D)` (R207). -/
def Drive.readPayload (cfg : Config) (d : Drive) : DriveDone Byte :=
  match d.diskBuffer with
  | none => .ok 0 (d.streamed cfg 0) []
  | some buf =>
    match buf[d.xferOffset]? with
    | none => .fault (.outOfImage d.xferOffset) d
    | some b => .ok b (({ d with xferOffset := d.xferOffset + 1 } : Drive).streamed cfg b) []

/-- `ReadCrc(D)` (R208). -/
def Drive.readCrcByte (cfg : Config) (d : Drive) : DriveDone Byte :=
  .ok (if d.diskBuffer.isSome then d.crc else 0xFF)
    { d with state := .readEnd, stateCounter := escapeCount cfg .readEnd } []

/-- `readByte(D)` (R205, R209). -/
def Drive.readByte (env : DriveEnv) (d : Drive) : DriveDone Byte :=
  match d.state with
  | .sectorScan | .windowOpen | .windowClose => (d.startRead env).readPayload env.cfg
  | .readData => d.readPayload env.cfg
  | .readCrc => d.readCrcByte env.cfg
  | .readEnd | .writeLeadin | .writeData | .writeCrc | .writeEnd =>
    .fault (.outOfSequence .readByte d.state) d

/-- `StartWrite(D)` (R211). -/
def Drive.startWrite (env : DriveEnv) (d : Drive) : Drive :=
  { d with
    autoCommit := env.autoCommit
    xferOffset := d.offset env.variant env.orderSide
    xferRemaining := d.sectorSize env.variant
    leadinSync := false
    crc := 0
    writeReady := true
    state := .writeLeadin
    stateCounter := escapeCount env.cfg .writeLeadin }

/-- `beginWrite(D)`: true is success (R210, R212). -/
def Drive.beginWrite (env : DriveEnv) (d : Drive) : DriveDone Bool :=
  if densityMismatch env d then .ok false d []
  else
    match d.state with
    | .sectorScan | .windowOpen | .windowClose => .ok true (d.startWrite env) []
    | .readData | .readCrc | .readEnd | .writeLeadin | .writeData | .writeCrc | .writeEnd =>
      .fault (.outOfSequence .beginWrite d.state) d

/-- `SecondByteRequired(D)` (R214). -/
def secondByteRequired (env : DriveEnv) : Bool :=
  match env.variant with
  | .sd => false
  | .dd => env.orderDouble || env.cfg.ddSecondByteWhenSingle

/-- `Leadin(D, v)` (R214). -/
def Drive.leadin (env : DriveEnv) (v : Byte) (d : Drive) : Drive :=
  if d.leadinSync then { d with state := .writeData }
  else if v = env.cfg.syncByte then
    if secondByteRequired env then { d with leadinSync := true } else { d with state := .writeData }
  else d

/-- The bookkeeping of `WriteData(D, v)` once its store is settled (R215). -/
def Drive.consumed (v : Byte) (d : Drive) : Drive :=
  { d with
    xferOffset := d.xferOffset + 1
    crc := crcStep d.crc v
    xferRemaining := d.xferRemaining - 1
    state := if d.xferRemaining - 1 = 0 then .writeCrc else d.state }

/-- The store of `WriteData(D, v)`: the drive with the byte stored, or none where the index is outside the image
(R215, R219, R221). -/
def Drive.stored (v : Byte) (d : Drive) : Option Drive :=
  match d.diskBuffer with
  | none => some d
  | some buf =>
    if d.writeProtect then some d
    else if d.xferOffset < buf.length then some { d with diskBuffer := some (buf.set d.xferOffset v) }
    else none

/-- The escape reload that ends `writeByte` (R213). -/
def Drive.reloaded (cfg : Config) (d : Drive) : Drive := { d with stateCounter := escapeCount cfg d.state }

/-- `WriteData(D, v)` with the reload of R213. -/
def Drive.writePayload (cfg : Config) (v : Byte) (d : Drive) : DriveDone Bool :=
  match d.stored v with
  | none => .fault (.outOfImage d.xferOffset) d
  | some d' => .ok true ((d'.consumed v).reloaded cfg) []

/-- `WriteCrc(D, v)` with the reload of R213; the CRC byte is discarded (R216). -/
def Drive.writeCrcByte (env : DriveEnv) (d : Drive) : DriveDone Bool :=
  let ended : Drive := ({ d with state := .writeEnd } : Drive).reloaded env.cfg
  match d.diskBuffer with
  | none => .ok true ended []
  | some buf =>
    if d.writeProtect then .ok true ended []
    else if d.autoCommit then
      .ok true { ended with commitPending := !env.persistOk } [.persist d.driveNumber buf env.persistOk]
    else .ok true { ended with commitPending := true } []

/-- `writeByte(D, v)`: true is success (R213, R217, R218). -/
def Drive.writeByte (env : DriveEnv) (v : Byte) (d : Drive) : DriveDone Bool :=
  if densityMismatch env d then .ok false d []
  else
    match d.state with
    | .writeLeadin => .ok true ((d.leadin env v).reloaded env.cfg) []
    | .writeData => d.writePayload env.cfg v
    | .writeCrc => d.writeCrcByte env
    | .sectorScan | .windowOpen | .windowClose | .readData | .readCrc | .readEnd | .writeEnd =>
      .fault (.outOfSequence .writeByte d.state) d

end Sys2Proof.Machine
end

