-- ==== Sys2Proof/Machine/State.lean ====
section
/-! DEFINITION. The whole state of the block as plain data (10_state.md), the reasons a step stops, and the state after
power-on (70_reset_and_hazards.md R290). -/

namespace Sys2Proof.Machine

/-- The tuple `(Bus, C, Fault)` of 10_state.md, the host's flags (R255), and the model's own fields: the open
parameters, the free-value counter, the queue of inputs, the last result and the record of outgoing calls. -/
structure State where
  cfg              : Config
  ram              : Memory
  c                : Controller
  fault            : Option FaultRecord
  autoCommitConfig : Bool
  readOnlyConfig   : List Bool
  draws            : Nat
  pending          : List Event
  result           : BusResult
  calls            : List HostCall
  deriving DecidableEq, Repr

/-- Why the machine stops. -/
inductive Fault
  /-- Raised by every bus operation issued while a fault is recorded: no CPU step is enabled then (R35, R270). Safe:
  the spec gives the operation no step. -/
  | halted (r : FaultRecord)
  deriving DecidableEq, Repr

/-- Why no step is taken. -/
inductive Refusal
  /-- An instruction with no meaning in this model yet, by its mnemonic; no arm of this model raises it. Safe. -/
  | notModelled (mnemonic : String)
  /-- Raised by `step` when no input is queued: the block does nothing of its own (R8, R21). Safe. -/
  | noPendingOperation
  /-- Raised by a host move that names a unit the installed controller lacks, or by a mount on the sink: R250's
  `require`, and "a host move that is not listed here has no step" (46_host_operations.md). Safe. -/
  | noSuchUnit
  deriving DecidableEq, Repr

/-- Power-on: `reboot(variant, images, true)` on a block with no prior state (R290), as an SD machine with no image
(assumptions 4 and 5), with the draws numbered 0 and the host's flags free (assumption 3). -/
def State.reset : State where
  cfg := Config.installed
  ram := ⟨0, []⟩
  c := Controller.fresh .sd Config.installed.firmwareROM ((List.range 5).map Config.powerOnReadOnly) 0
  fault := none
  autoCommitConfig := Config.powerOnAutoCommit
  readOnlyConfig := (List.range 5).map Config.powerOnReadOnly
  draws := 0
  pending := []
  result := .none
  calls := []

end Sys2Proof.Machine
end

