-- ==== Sys2Proof/Machine/Flags.lean ====
section
/-! DEFINITION. The drive view (10_state.md R32) and the status bytes computed from it (R33). The four flags themselves
are fields of a drive, written only by the rules R31 names. -/

namespace Sys2Proof.Machine

/-- `View(C, D)` (R32). -/
def viewOf (c : Controller) (d : Drive) : DriveView where
  diskPresent := d.diskBuffer.isSome
  sectorFlag := d.sectorHoleDetected
  inWindow := d.inWindow
  syncDetected := d.syncDetected
  writeReady := d.writeReady
  writeProtect := d.writeProtect
  trackZero := d.currentTrack == 0
  sector := d.currentSector
  state := d.state
  imageDouble := match c.variant with | .sd => false | .dd => d.imageDouble
  orderDouble := match c.variant with | .sd => false | .dd => c.orderDouble
  orderSide := match c.variant with | .sd => 0 | .dd => c.orderSide
  motorOn := true

/-- `b` with bit `i` set to `on`. -/
def forceBit (b : Byte) (i : Fin 8) (on : Bool) : Byte :=
  if on then b ||| (1#8 <<< i.val) else b &&& ~~~(1#8 <<< i.val)

/-- The sector-flag bit of a status byte: set with no disk, else the sector flag (R33, constraints 2 and 3). -/
def sfValue (v : DriveView) : Bool := !v.diskPresent || v.sectorFlag

/-- `statusA_SD` (R33): any function of the view with the sector-flag bit as R33 fixes it (assumption 8). -/
def statusASd (cfg : Config) (v : DriveView) : Byte := forceBit (Config.statusASdRaw v) cfg.sfBitASd (sfValue v)

/-- `statusB_SD` (R33). -/
def statusBSd (cfg : Config) (v : DriveView) : Byte := forceBit (Config.statusBSdRaw v) cfg.sfBitBSd (sfValue v)

/-- `statusA_DD` (R33). -/
def statusADd (cfg : Config) (v : DriveView) : Byte := forceBit (Config.statusADdRaw v) cfg.sfBitADd (sfValue v)

/-- `statusB_DD` (R33). -/
def statusBDd (cfg : Config) (v : DriveView) : Byte := forceBit (Config.statusBDdRaw v) cfg.sfBitBDd (sfValue v)

/-- `statusC_DD` (R33). -/
def statusCDd (cfg : Config) (v : DriveView) : Byte := forceBit (Config.statusCDdRaw v) cfg.sfBitCDd (sfValue v)

end Sys2Proof.Machine
end

