-- ==== Sys2Proof/Machine/Ops.lean ====
section
/-! DEFINITION. The named operations every instruction is written over: RAM (10_state.md R22, R23; canonical form,
assumption 20), the way a byte operation ends, raising a fault (60_exceptions.md R270), the selected drive, the free
value counter (assumption 1), motor bookkeeping (R281), and the calls of the drive operations. The block has no trap
return (R279): what leaves the faulted state is the host's reboot (Machine/HostOps.lean). -/

namespace Sys2Proof.Machine

/-! ### RAM -/

/-- What an address no write has touched since the last `clearMemory()` reads as: a draw (R23). -/
def Memory.background (m : Memory) (k : Nat) : Byte := Config.ramDraw m.seed k

/-- The byte listed for a key. -/
def lookupCell (k : Nat) : List Host.Cell → Option Byte
  | [] => none
  | c :: rest => if c.1 = k then some c.2 else lookupCell k rest

/-- The list with the key's byte set, keys kept rising. -/
def insertCell (k : Nat) (v : Byte) : List Host.Cell → List Host.Cell
  | [] => [(k, v)]
  | c :: rest =>
    if k < c.1 then (k, v) :: c :: rest
    else if k = c.1 then (k, v) :: rest
    else c :: insertCell k v rest

/-- The list without the key. -/
def eraseCell (k : Nat) : List Host.Cell → List Host.Cell
  | [] => []
  | c :: rest => if c.1 = k then rest else c :: eraseCell k rest

/-- `Bus.Ram[a]` (R22). -/
def Memory.read (m : Memory) (a : Addr) : Byte :=
  match lookupCell a.toNat m.cells with
  | some v => v
  | none => m.background a.toNat

/-- `Bus.Ram[a] <- v` (R22), in the canonical form. -/
def Memory.write (m : Memory) (a : Addr) (v : Byte) : Memory :=
  { m with
    cells :=
      if v = m.background a.toNat then eraseCell a.toNat m.cells else insertCell a.toNat v m.cells }

/-- Keys strictly rising from above `lo`. -/
def risingFrom (lo : Nat) : List Host.Cell → Bool
  | [] => true
  | c :: rest => lo ≤ c.1 && risingFrom (c.1 + 1) rest

/-- The canonical form: keys strictly rising, inside the address space, and no cell equal to the background. -/
def Memory.wf (m : Memory) : Bool :=
  risingFrom 0 m.cells && m.cells.all fun c => c.1 < 65536 && c.2 != m.background c.1

/-! ### How an operation inside a step ends -/

/-- With an answer, or with a fault recorded in the state it leaves (R270). -/
inductive Res (α : Type)
  | ok (answer : α) (s : State)
  | faulted (s : State)

/-- Go on with the answer; a fault abandons the rest (R270). -/
def Res.bind (r : Res α) (k : α → State → Res β) : Res β :=
  match r with
  | .ok x s => k x s
  | .faulted s => .faulted s

/-- `raise Fault(kind, info)`: the record is set, every write made before stands (R270). -/
def raise (r : FaultRecord) (s : State) : Res α := .faulted { s with fault := some r }

/-- The end of a byte read: the byte, or nothing after a fault (R270). -/
def finishByte (r : Res Byte) : Host.Outcome State Fault Refusal :=
  match r with
  | .ok b s => .next { s with result := .byte b }
  | .faulted s => .next { s with result := .none }

/-- The end of a word read (R102). -/
def finishWord (r : Res Word16) : Host.Outcome State Fault Refusal :=
  match r with
  | .ok w s => .next { s with result := .word w }
  | .faulted s => .next { s with result := .none }

/-- A bus operation is enabled only while no fault is recorded (R35). -/
def whenLive (s : State) (k : State → Host.Outcome State Fault Refusal) : Host.Outcome State Fault Refusal :=
  match s.fault with
  | some r => .fault (.halted r)
  | none => k s

/-! ### Pieces of a dispatch -/

/-- A fresh number for the free values of one operation (assumption 1). -/
def State.tick (s : State) : State := { s with draws := s.draws + 1 }

/-- Drive `u` of the controller; a number no drive has reads as a reset drive (assumption 19). -/
def Controller.drive (c : Controller) (u : Nat) : Drive := c.drives.getD u (Drive.powerOn u false 0 0)

/-- `sel`: `C.drives[C.selectedDrive]`, read at the moment it is used (41_sd_controller.md). -/
def State.sel (s : State) : Drive := s.c.drive s.c.selectedDrive

/-- The state with drive `u` replaced. -/
def State.setDrive (u : Nat) (d : Drive) (s : State) : State :=
  { s with c := { s.c with drives := s.c.drives.set u d } }

/-- The state with the selected drive replaced. -/
def State.setSel (d : Drive) (s : State) : State := s.setDrive s.c.selectedDrive d

/-- `C.selectedDrive <- u`. -/
def State.select (u : Nat) (s : State) : State := { s with c := { s.c with selectedDrive := u } }

/-- Motor bookkeeping of a dispatch that is no PROM read, at the host time drawn for it (R281). -/
def State.touchMotors (s : State) : State :=
  { s with c := { s.c with motorsRunning := true, lastMotorActivity := some (Config.hostTime s.draws) } }

/-- The start of every dispatch that is no PROM read: a fresh draw number and the motor bookkeeping (R281; assumption
15). -/
def State.beginDispatch (s : State) : State := s.tick.touchMotors

/-- `Update(sel, r)` (R180, R189). -/
def State.updateSel (r : Bool) (s : State) : State :=
  s.setSel (s.sel.update s.cfg r (Config.jitterDraw s.draws))

/-- What a drive operation reads of the block. -/
def State.env (s : State) : DriveEnv where
  cfg := s.cfg
  variant := s.c.variant
  orderDouble := s.c.orderDouble
  orderSide := s.c.orderSide
  autoCommit := s.autoCommitConfig
  persistOk := Config.persistDraw s.draws

/-- The fault record of a drive fault, completed with the drive's unit and the bus address (R270). -/
def recordOf (unit : Nat) (a : Addr) : DriveFault → FaultRecord
  | .outOfSequence op st => .internalConsistency op st unit a
  | .outOfImage i => .imageBounds unit i a

/-- A drive operation of the dispatch at address `a`, on the selected drive. -/
def callDrive (a : Addr) (f : DriveEnv → Drive → DriveDone α) (s : State) : Res α :=
  match f s.env s.sel with
  | .ok x d calls => .ok x { s.setSel d with calls := calls ++ s.calls }
  | .fault e d => raise (recordOf s.sel.driveNumber a e) (s.setSel d)

/-- `sel.readByte()` of the dispatch at `a` (R124, R156). -/
def readStream (a : Addr) (s : State) : Res Byte := callDrive a Drive.readByte s

/-- `sel.beginWrite()`: true is success (R126, R166). -/
def startSectorWrite (a : Addr) (s : State) : Res Bool := callDrive a Drive.beginWrite s

/-- `sel.writeByte(v)`: true is success (R122, R152). -/
def writeStream (a : Addr) (v : Byte) (s : State) : Res Bool := callDrive a (fun env d => d.writeByte env v) s

/-- `sel.sectorHoleDetected <- false` (R130, R161). -/
def State.clearHole (s : State) : State := s.setSel { s.sel with sectorHoleDetected := false }

/-- `setStepFlipFlop(sel, bit)` (R127, R153). -/
def State.stepFlipFlop (bit : Bool) (s : State) : State := s.setSel (s.sel.setStepFlipFlop bit)

/-- `setStepDirection(sel, dir)` (R132, R153). -/
def State.stepDirection (dir : StepDirection) (s : State) : State := s.setSel (s.sel.setStepDirection dir)

/-- A PROM byte (R121, R151). -/
def State.promByte (i : Byte) (s : State) : Byte := s.c.firmwareROM[i.toNat]'i.isLt

end Sys2Proof.Machine
end

