-- ==== Sys2Proof/Machine/DdController.lean ====
section
/-! DEFINITION. The double-density controller (42_dd_controller.md): one definition for each row, answering how the byte
read of address `a` ends, and the dispatch `DD.read(a)` over them (R150). -/

namespace Sys2Proof.Machine

/-- `MuxResult(MUX)` (R156), on the drive selected after the command. -/
def ddResult (a : Addr) (mux : BitVec 4) (s : State) : Res Byte :=
  match mux.toNat with
  | 1 => .ok (statusADd s.cfg (viewOf s.c s.sel)) s
  | 2 => .ok (statusBDd s.cfg (viewOf s.c s.sel)) s
  | 3 => .ok (statusCDd s.cfg (viewOf s.c s.sel)) s
  | 4 => readStream a s
  | _ => .ok (Config.byteDraw s.draws) s

/-- A DD command (R155): the update, the effect, and the result; an effect that answers failure returns `0x00` in its
place (R166). -/
def ddCommand (a : Addr) (mux : BitVec 4) (effect : State → Res Bool) (s : State) : Res Byte :=
  (effect (s.beginDispatch.updateSel (mux == 2#4))).bind fun success s' =>
    if success then ddResult a mux s' else .ok 0x00#8 s'

/-- `DD.PROM i` (R151). -/
def ddPromRead (i : Byte) (s : State) : Res Byte := .ok (s.promByte i) s

/-- `DD.WDATA v` (R152): a density mismatch answers failure and returns `0x00`; else the byte returned is a draw. -/
def ddWdataRead (a : Addr) (v : Byte) (s : State) : Res Byte :=
  (writeStream a v (s.beginDispatch.updateSel false)).bind fun success s' =>
    .ok (if success then Config.byteDraw s'.draws else 0x00#8) s'

/-- The order fields kept on the controller (R25, R153). -/
def State.setOrder (den : Bool) (side : BitVec 1) (s : State) : State :=
  { s with c := { s.c with orderDouble := den, orderSide := side } }

/-- The direction bit of an order, honoured only when the selected drive is not write-ready (R153, R300). -/
def State.orderDirection (dir : Bool) (s : State) : State :=
  if s.sel.writeReady then s else s.stepDirection (directionOf dir)

/-- `DD.ORDER` (R153): the order fields, then direction and step on the drive selected before, then the selection. No
update (R158). -/
def ddOrderRead (den : Bool) (side : BitVec 1) (dir step : Bool) (ds : BitVec 4) (s : State) : Res Byte :=
  let s' := (((s.beginDispatch.setOrder den side).orderDirection dir).stepFlipFlop step).select (oneHot ds)
  .ok (Config.byteDraw s'.draws) s'

/-- `DD.NOP` (R160). -/
def ddNopRead (a : Addr) (mux : BitVec 4) (s : State) : Res Byte := ddCommand a mux (fun s => .ok true s) s

/-- `DD.RSF` (R161). -/
def ddRsfRead (a : Addr) (mux : BitVec 4) (s : State) : Res Byte := ddCommand a mux (fun s => .ok true s.clearHole) s

/-- `DD.INTR2`: reserved no-op (R162). -/
def ddIntr2Read (a : Addr) (mux : BitVec 4) (s : State) : Res Byte := ddCommand a mux (fun s => .ok true s) s

/-- `DD.INTR3`: reserved no-op (R163). -/
def ddIntr3Read (a : Addr) (mux : BitVec 4) (s : State) : Res Byte := ddCommand a mux (fun s => .ok true s) s

/-- `DD.BODY`: reserved no-op (R164). -/
def ddBodyRead (a : Addr) (mux : BitVec 4) (s : State) : Res Byte := ddCommand a mux (fun s => .ok true s) s

/-- `DD.MOTOR`: no-op (R165). -/
def ddMotorRead (a : Addr) (mux : BitVec 4) (s : State) : Res Byte := ddCommand a mux (fun s => .ok true s) s

/-- `DD.WRT` (R166): the density check of `beginWrite` comes before its state check (R212). -/
def ddWrtRead (a : Addr) (mux : BitVec 4) (s : State) : Res Byte := ddCommand a mux (startSectorWrite a) s

/-- `DD.RESET`: reserved no-op (R167). -/
def ddResetRead (a : Addr) (mux : BitVec 4) (s : State) : Res Byte := ddCommand a mux (fun s => .ok true s) s

/-- Command codes 8..15 (R157, R274): the fault comes after the update. -/
def ddUndefRead (a : Addr) (mux : BitVec 4) (s : State) : Res Byte :=
  ddCommand a mux (fun s => raise (.undefinedCommand a) s) s

/-- The DD command of low byte `q` (R88, R89). -/
def ddCmdRead (a : Addr) (q : Byte) (s : State) : Res Byte :=
  match (ddCmd q).toNat with
  | 0 => ddNopRead a (ddMux q) s
  | 1 => ddRsfRead a (ddMux q) s
  | 2 => ddIntr2Read a (ddMux q) s
  | 3 => ddIntr3Read a (ddMux q) s
  | 4 => ddBodyRead a (ddMux q) s
  | 5 => ddMotorRead a (ddMux q) s
  | 6 => ddWrtRead a (ddMux q) s
  | 7 => ddResetRead a (ddMux q) s
  | _ => ddUndefRead a (ddMux q) s

/-- `DD.read(a)` (R150). -/
def ddRead (a : Addr) (s : State) : Res Byte :=
  match (opType a).toNat with
  | 0 => ddPromRead (params a) s
  | 1 => ddWdataRead a (params a) s
  | 2 =>
    ddOrderRead (orderDen (params a)) (orderSideBit (params a)) (orderDir (params a)) (orderStep (params a))
      (orderDs (params a)) s
  | _ => ddCmdRead a (params a) s

end Sys2Proof.Machine
end

