-- ==== Sys2Proof/Machine/SdController.lean ====
section
/-! DEFINITION. The single-density controller (41_sd_controller.md): one definition for each row, answering how the byte
read of address `a` ends, and the dispatch `SD.read(a)` over them (R120). -/

namespace Sys2Proof.Machine

/-- `Result(D, B)` (R124), on the drive selected after the command. -/
def sdResult (a : Addr) (d b : Bool) (s : State) : Res Byte :=
  if d then readStream a s
  else if b then .ok (statusBSd s.cfg (viewOf s.c s.sel)) s
  else .ok (statusASd s.cfg (viewOf s.c s.sel)) s

/-- An SD command (R123): the update on the drive selected before it, the effect, the result on the drive selected
after it. -/
def sdCommand (a : Addr) (d b : Bool) (effect : State → Res Unit) (s : State) : Res Byte :=
  (effect (s.beginDispatch.updateSel b)).bind fun _ s' => sdResult a d b s'

/-- `SD.PROM i` (R121). -/
def sdPromRead (i : Byte) (s : State) : Res Byte := .ok (s.promByte i) s

/-- `SD.PROM1 i`: the same image (R121). -/
def sdProm1Read (i : Byte) (s : State) : Res Byte := .ok (s.promByte i) s

/-- `SD.WDATA v` (R122). On SD a data write never answers failure; the byte returned is a draw. -/
def sdWdataRead (a : Addr) (v : Byte) (s : State) : Res Byte :=
  (writeStream a v (s.beginDispatch.updateSel false)).bind fun _ s' => .ok (Config.byteDraw s'.draws) s'

/-- `SD.SEL p` (R125). -/
def sdSelRead (a : Addr) (d b : Bool) (p : BitVec 2) (s : State) : Res Byte :=
  sdCommand a d b (fun s => if p = 0#2 then raise (.selectUnitZero a) s else .ok () (s.select p.toNat)) s

/-- `SD.WRT` (R126): the success result is not used. -/
def sdWrtRead (a : Addr) (d b : Bool) (s : State) : Res Byte :=
  sdCommand a d b (fun s => (startSectorWrite a s).bind fun _ s' => .ok () s') s

/-- `SD.STPFF p[0]` (R127). -/
def sdStpffRead (a : Addr) (d b : Bool) (p : BitVec 2) (s : State) : Res Byte :=
  sdCommand a d b (fun s => .ok () (s.stepFlipFlop (sdBit p))) s

/-- `SD.INTR`: reserved no-op (R128). -/
def sdIntrRead (a : Addr) (d b : Bool) (s : State) : Res Byte := sdCommand a d b (fun s => .ok () s) s

/-- `SD.NOP` (R129). -/
def sdNopRead (a : Addr) (d b : Bool) (s : State) : Res Byte := sdCommand a d b (fun s => .ok () s) s

/-- `SD.RSF` (R130). -/
def sdRsfRead (a : Addr) (d b : Bool) (s : State) : Res Byte := sdCommand a d b (fun s => .ok () s.clearHole) s

/-- `SD.RESET`: reserved no-op (R131). -/
def sdResetRead (a : Addr) (d b : Bool) (s : State) : Res Byte := sdCommand a d b (fun s => .ok () s) s

/-- `SD.STPDIR p[0]` (R132). -/
def sdStpdirRead (a : Addr) (d b : Bool) (p : BitVec 2) (s : State) : Res Byte :=
  sdCommand a d b (fun s => .ok () (s.stepDirection (directionOf (sdBit p)))) s

/-- The SD command of low byte `q` (R84, R85). -/
def sdCmdRead (a : Addr) (q : Byte) (s : State) : Res Byte :=
  match (sdCmd q).toNat with
  | 0 => sdSelRead a (sdD q) (sdB q) (sdP q) s
  | 1 => sdWrtRead a (sdD q) (sdB q) s
  | 2 => sdStpffRead a (sdD q) (sdB q) (sdP q) s
  | 3 => sdIntrRead a (sdD q) (sdB q) s
  | 4 => sdNopRead a (sdD q) (sdB q) s
  | 5 => sdRsfRead a (sdD q) (sdB q) s
  | 6 => sdResetRead a (sdD q) (sdB q) s
  | _ => sdStpdirRead a (sdD q) (sdB q) (sdP q) s

/-- `SD.read(a)` (R120). -/
def sdRead (a : Addr) (s : State) : Res Byte :=
  match (opType a).toNat with
  | 0 => sdPromRead (params a) s
  | 1 => sdProm1Read (params a) s
  | 2 => sdWdataRead a (params a) s
  | _ => sdCmdRead a (params a) s

end Sys2Proof.Machine
end

