-- ==== Sys2Proof/Machine/Bus.lean ====
section
/-! DEFINITION. The MemoryBus router (20_memory.md R60 to R67, 40_bus_router.md R100 to R106) and the meanings of the
four bus rows. -/

namespace Sys2Proof.Machine

/-- The four regions of the address space (R61). -/
inductive Region
  | floppy
  | firmware
  | display
  | ram
  deriving DecidableEq, Repr

/-- The region outside the floppy range: the firmware range before the display range (R62, R63). -/
def routeOutside (cfg : Config) (a : Addr) : Region :=
  if cfg.fwLo ≤ a ∧ a ≤ cfg.fwHi then .firmware
  else if cfg.dispLo ≤ a ∧ a ≤ cfg.dispHi then .display
  else .ram

/-- `Route(a)`: the ranges tested in the order of R62. -/
def route (cfg : Config) (a : Addr) : Region := if inFloppy a then .floppy else routeOutside cfg a

/-- Controller dispatch `C.read(a)`, by the controller installed at the last reboot (R104). -/
def controllerRead (a : Addr) (s : State) : Res Byte :=
  match s.c.variant with
  | .sd => sdRead a s
  | .dd => ddRead a s

/-- The state after a call to a collaborator. -/
def State.called (h : HostCall) (s : State) : State := { s with calls := h :: s.calls }

/-- A byte read outside the floppy range: it always answers (R106) and writes nothing in the block (R100). A video read
is answered by the collaborator, with any byte (R105; assumption 24). -/
def readOutside (region : Region) (a : Addr) (s : State) : Byte × State :=
  match region with
  | .firmware =>
    (Config.firmwareByteDraw s.tick.draws a, s.tick.called (.readFirmwareByte a))
  | .display =>
    (Config.screenByteDraw s.tick.draws a, s.tick.called (.readScreenByte a))
  | .floppy | .ram => (s.ram.read a, s)

/-- `BusRead(a)` (R100). -/
def busRead (a : Addr) (s : State) : Res Byte :=
  if inFloppy a then controllerRead a s
  else
    let answer := readOutside (routeOutside s.cfg a) a s
    .ok answer.1 answer.2

/-- `BusWrite(a, v)` (R101): no write reaches the controller, and none faults. -/
def busWrite (a : Addr) (v : Byte) (s : State) : State :=
  match route s.cfg a with
  | .floppy => s
  | .firmware => s
  | .display => s.called (.writeScreenByte a v)
  | .ram => { s with ram := s.ram.write a v }

/-- `BusReadWord(a)` (R102): two byte reads, the second not performed after a fault of the first. -/
def busReadWord (a : Addr) (s : State) : Res Word16 :=
  (busRead a s).bind fun lo s' => (busRead (second a) s').bind fun hi s'' => .ok (wordOf lo hi) s''

/-- `BusWriteWord(a, w)` (R103). -/
def busWriteWord (a : Addr) (w : Word16) (s : State) : State :=
  busWrite (second a) (highByte w) (busWrite a (lowByte w) s)

/-- `RD a` (R100). -/
def execRd (a : Addr) (s : State) : Host.Outcome State Fault Refusal :=
  whenLive s fun s => finishByte (busRead a s)

/-- `WR a, v` (R101). -/
def execWr (a : Addr) (v : Byte) (s : State) : Host.Outcome State Fault Refusal :=
  whenLive s fun s => .next { busWrite a v s with result := .none }

/-- `RDW a` (R102). -/
def execRdw (a : Addr) (s : State) : Host.Outcome State Fault Refusal :=
  whenLive s fun s => finishWord (busReadWord a s)

/-- `WRW a, w` (R103). -/
def execWrw (a : Addr) (w : Word16) (s : State) : Host.Outcome State Fault Refusal :=
  whenLive s fun s => .next { busWriteWord a w s with result := .none }

/-- A controller row: the byte read of its address (R95). On the controller the row belongs to it runs the row's
meaning; on the other one the same bus operation is what that controller makes of the address (R94; assumption 13). -/
def onController (v : Variant) (a : Addr) (meaning : State → Res Byte) (s : State) :
    Host.Outcome State Fault Refusal :=
  whenLive s fun s => finishByte (if s.c.variant = v then meaning s else controllerRead a s)

end Sys2Proof.Machine
end

