-- ==== Sys2Proof/Machine/DdRows.lean ====
section
/-! DEFINITION. The meanings of the DD rows of the opcode table: each is the byte read of its address (30_encoding.md
R95) run by the DD controller (42_dd_controller.md). -/

namespace Sys2Proof.Machine

/-- `DD.PROM i` (R151). -/
def execDdProm (i : Byte) (s : State) : Host.Outcome State Fault Refusal :=
  onController .dd (pageAddr 0xE8#8 i) (ddPromRead i) s

/-- `DD.WDATA v` (R152). -/
def execDdWdata (v : Byte) (s : State) : Host.Outcome State Fault Refusal :=
  onController .dd (pageAddr 0xE9#8 v) (ddWdataRead (pageAddr 0xE9#8 v) v) s

/-- `DD.ORDER` (R153). -/
def execDdOrder (den : Bool) (side : BitVec 1) (dir step : Bool) (ds : BitVec 4) (s : State) :
    Host.Outcome State Fault Refusal :=
  onController .dd (orderAddr den side dir step ds) (ddOrderRead den side dir step ds) s

/-- `DD.NOP` (R160). -/
def execDdNop (mux : BitVec 4) (s : State) : Host.Outcome State Fault Refusal :=
  onController .dd (ddAddr mux 0#4) (ddNopRead (ddAddr mux 0#4) mux) s

/-- `DD.RSF` (R161). -/
def execDdRsf (mux : BitVec 4) (s : State) : Host.Outcome State Fault Refusal :=
  onController .dd (ddAddr mux 1#4) (ddRsfRead (ddAddr mux 1#4) mux) s

/-- `DD.INTR2` (R162). -/
def execDdIntr2 (mux : BitVec 4) (s : State) : Host.Outcome State Fault Refusal :=
  onController .dd (ddAddr mux 2#4) (ddIntr2Read (ddAddr mux 2#4) mux) s

/-- `DD.INTR3` (R163). -/
def execDdIntr3 (mux : BitVec 4) (s : State) : Host.Outcome State Fault Refusal :=
  onController .dd (ddAddr mux 3#4) (ddIntr3Read (ddAddr mux 3#4) mux) s

/-- `DD.BODY` (R164). -/
def execDdBody (mux : BitVec 4) (s : State) : Host.Outcome State Fault Refusal :=
  onController .dd (ddAddr mux 4#4) (ddBodyRead (ddAddr mux 4#4) mux) s

/-- `DD.MOTOR` (R165). -/
def execDdMotor (mux : BitVec 4) (s : State) : Host.Outcome State Fault Refusal :=
  onController .dd (ddAddr mux 5#4) (ddMotorRead (ddAddr mux 5#4) mux) s

/-- `DD.WRT` (R166). -/
def execDdWrt (mux : BitVec 4) (s : State) : Host.Outcome State Fault Refusal :=
  onController .dd (ddAddr mux 6#4) (ddWrtRead (ddAddr mux 6#4) mux) s

/-- `DD.RESET` (R167). -/
def execDdReset (mux : BitVec 4) (s : State) : Host.Outcome State Fault Refusal :=
  onController .dd (ddAddr mux 7#4) (ddResetRead (ddAddr mux 7#4) mux) s

/-- `DD.UNDEF`: command code `8 + low` (R157). -/
def execDdUndef (mux : BitVec 4) (low : BitVec 3) (s : State) : Host.Outcome State Fault Refusal :=
  onController .dd (ddAddr mux (undefCode low)) (ddUndefRead (ddAddr mux (undefCode low)) mux) s

end Sys2Proof.Machine
end

