-- ==== Sys2Proof/Machine/SdRows.lean ====
section
/-! DEFINITION. The meanings of the SD rows of the opcode table: each is the byte read of its address (30_encoding.md
R95) run by the SD controller (41_sd_controller.md). -/

namespace Sys2Proof.Machine

/-- `SD.PROM i` (R121). -/
def execSdProm (i : Byte) (s : State) : Host.Outcome State Fault Refusal :=
  onController .sd (pageAddr 0xE8#8 i) (sdPromRead i) s

/-- `SD.PROM1 i` (R121). -/
def execSdProm1 (i : Byte) (s : State) : Host.Outcome State Fault Refusal :=
  onController .sd (pageAddr 0xE9#8 i) (sdProm1Read i) s

/-- `SD.WDATA v` (R122). -/
def execSdWdata (v : Byte) (s : State) : Host.Outcome State Fault Refusal :=
  onController .sd (pageAddr 0xEA#8 v) (sdWdataRead (pageAddr 0xEA#8 v) v) s

/-- `SD.SEL` (R125). -/
def execSdSel (x d b : Bool) (p : BitVec 2) (s : State) : Host.Outcome State Fault Refusal :=
  onController .sd (sdAddr x d b 0#3 p) (sdSelRead (sdAddr x d b 0#3 p) d b p) s

/-- `SD.WRT` (R126). -/
def execSdWrt (x d b : Bool) (p : BitVec 2) (s : State) : Host.Outcome State Fault Refusal :=
  onController .sd (sdAddr x d b 1#3 p) (sdWrtRead (sdAddr x d b 1#3 p) d b) s

/-- `SD.STPFF` (R127). -/
def execSdStpff (x d b : Bool) (p : BitVec 2) (s : State) : Host.Outcome State Fault Refusal :=
  onController .sd (sdAddr x d b 2#3 p) (sdStpffRead (sdAddr x d b 2#3 p) d b p) s

/-- `SD.INTR` (R128). -/
def execSdIntr (x d b : Bool) (p : BitVec 2) (s : State) : Host.Outcome State Fault Refusal :=
  onController .sd (sdAddr x d b 3#3 p) (sdIntrRead (sdAddr x d b 3#3 p) d b) s

/-- `SD.NOP` (R129). -/
def execSdNop (x d b : Bool) (p : BitVec 2) (s : State) : Host.Outcome State Fault Refusal :=
  onController .sd (sdAddr x d b 4#3 p) (sdNopRead (sdAddr x d b 4#3 p) d b) s

/-- `SD.RSF` (R130). -/
def execSdRsf (x d b : Bool) (p : BitVec 2) (s : State) : Host.Outcome State Fault Refusal :=
  onController .sd (sdAddr x d b 5#3 p) (sdRsfRead (sdAddr x d b 5#3 p) d b) s

/-- `SD.RESET` (R131). -/
def execSdReset (x d b : Bool) (p : BitVec 2) (s : State) : Host.Outcome State Fault Refusal :=
  onController .sd (sdAddr x d b 6#3 p) (sdResetRead (sdAddr x d b 6#3 p) d b) s

/-- `SD.STPDIR` (R132). -/
def execSdStpdir (x d b : Bool) (p : BitVec 2) (s : State) : Host.Outcome State Fault Refusal :=
  onController .sd (sdAddr x d b 7#3 p) (sdStpdirRead (sdAddr x d b 7#3 p) d b p) s

end Sys2Proof.Machine
end

