-- ==== Sys2Proof/Machine/Dispatch.lean ====
section
/-! DEFINITION. One arm per row of spec/opcode_table.json. -/

namespace Sys2Proof.Machine

def exec (i : Instr) (s : State) : Host.Outcome State Fault Refusal :=
  match i with
  | .rd a => Sys2Proof.Machine.execRd a s
  | .wr a v => Sys2Proof.Machine.execWr a v s
  | .rdw a => Sys2Proof.Machine.execRdw a s
  | .wrw a w => Sys2Proof.Machine.execWrw a w s
  | .sdProm k => Sys2Proof.Machine.execSdProm k s
  | .sdProm1 k => Sys2Proof.Machine.execSdProm1 k s
  | .sdWdata v => Sys2Proof.Machine.execSdWdata v s
  | .sdSel x d b p => Sys2Proof.Machine.execSdSel x d b p s
  | .sdWrt x d b p => Sys2Proof.Machine.execSdWrt x d b p s
  | .sdStpff x d b p => Sys2Proof.Machine.execSdStpff x d b p s
  | .sdIntr x d b p => Sys2Proof.Machine.execSdIntr x d b p s
  | .sdNop x d b p => Sys2Proof.Machine.execSdNop x d b p s
  | .sdRsf x d b p => Sys2Proof.Machine.execSdRsf x d b p s
  | .sdReset x d b p => Sys2Proof.Machine.execSdReset x d b p s
  | .sdStpdir x d b p => Sys2Proof.Machine.execSdStpdir x d b p s
  | .ddProm k => Sys2Proof.Machine.execDdProm k s
  | .ddWdata v => Sys2Proof.Machine.execDdWdata v s
  | .ddOrder den side dir step ds => Sys2Proof.Machine.execDdOrder den side dir step ds s
  | .ddNop m => Sys2Proof.Machine.execDdNop m s
  | .ddRsf m => Sys2Proof.Machine.execDdRsf m s
  | .ddIntr2 m => Sys2Proof.Machine.execDdIntr2 m s
  | .ddIntr3 m => Sys2Proof.Machine.execDdIntr3 m s
  | .ddBody m => Sys2Proof.Machine.execDdBody m s
  | .ddMotor m => Sys2Proof.Machine.execDdMotor m s
  | .ddWrt m => Sys2Proof.Machine.execDdWrt m s
  | .ddReset m => Sys2Proof.Machine.execDdReset m s
  | .ddUndef m low => Sys2Proof.Machine.execDdUndef m low s

end Sys2Proof.Machine
end

