-- ==== Sys2Proof/Machine/HostOps.lean ====
section
/-! DEFINITION. The host's moves (46_host_operations.md): mount, failed load, unmount, commit, configuration, reboot,
motor poll, blank images. None of them calls `Update` (R189), none raises a fault, and a recorded fault disables none
of them (R35 speaks of CPU steps). -/

namespace Sys2Proof.Machine

/-- Unit `u` has a drive record on the installed controller (R30). -/
def hasUnit (s : State) (u : Nat) : Bool := u ≤ numUnits s.c.variant

/-- `mount(u, bytes, name)` (R250), with a fresh draw of track and sector (R27). -/
def mountImage (u : Nat) (image : DiskImage) (s : State) : State :=
  let n := s.tick.draws
  s.tick.setDrive u
    { Drive.drawn u (readOnlyOf s.readOnlyConfig u) n with
      diskBuffer := some image.bytes
      fileName := some image.name
      imageDouble := match s.c.variant with | .sd => false | .dd => classifyDouble image.bytes.length }

/-- A failed load: the reset of R250, and no disk (R251). -/
def mountNothing (u : Nat) (s : State) : State :=
  s.tick.setDrive u (Drive.drawn u (readOnlyOf s.readOnlyConfig u) s.tick.draws)

/-- `unmount(u)` (R252): buffer, name and pending flag; no other field (assumption 18). -/
def unmountDrive (u : Nat) (s : State) : State :=
  s.setDrive u { s.c.drive u with diskBuffer := none, fileName := none, commitPending := false }

/-- `commit(u)` (R253, R254). -/
def commitDrive (u : Nat) (s : State) : State :=
  match (s.c.drive u).commitPending, (s.c.drive u).diskBuffer with
  | true, some buf =>
    let outcome := Config.persistDraw s.tick.draws
    (s.tick.setDrive u { s.c.drive u with commitPending := !outcome }).called (.persist u buf outcome)
  | _, _ => s

/-- Setting `readOnlyConfig(u)` also sets the drive's `writeProtect` at once (R255). -/
def setReadOnlyFlag (u : Nat) (on : Bool) (s : State) : State :=
  ({ s with readOnlyConfig := s.readOnlyConfig.set u on } : State).setDrive u
    { s.c.drive u with writeProtect := on }

/-- `clearMemory()`: every RAM byte is drawn anew, nothing else changes (R293). -/
def clearMemory (s : State) : State := { s with ram := ⟨s.draws, []⟩ }

/-- The mounts of a reboot, in unit order from `u`; entries beyond the last unit are none of the operation (R256). -/
def mountFrom (u : Nat) (images : List (Option DiskImage)) (s : State) : State :=
  match images with
  | [] => s
  | entry :: rest =>
    if u ≤ numUnits s.c.variant then
      match entry with
      | some image => mountFrom (u + 1) rest (mountImage u image s)
      | none => mountFrom (u + 1) rest s
    else s

/-- A new controller of the variant, no image mounted, with fresh draws (R256, R291). -/
def installController (v : Variant) (s : State) : State :=
  { s.tick with c := Controller.fresh v s.cfg.firmwareROM s.readOnlyConfig s.tick.draws }

/-- `reboot(variant, images, clearRam)` (R256). -/
def rebootBlock (v : Variant) (images : List (Option DiskImage)) (clearRam : Bool) (s : State) : State :=
  let mounted := mountFrom 1 images (installController v { s with fault := none })
  if clearRam then clearMemory mounted.tick else mounted

/-- `motorPoll(now)` (R258); with no activity recorded there is no elapsed time to compare (assumption 17). -/
def pollMotors (now : Nat) (s : State) : State :=
  match s.c.lastMotorActivity with
  | none => s
  | some last =>
    if s.c.motorsRunning && 5 * s.cfg.ticksPerSecond < now - last then
      { s with c := { s.c with motorsRunning := false } }
    else s

/-- `sides * 35 * 10 * sectorSize` of a canonical image (R259). -/
def blankLength : BlankSize → Nat
  | .singleSidedSingleDensity => 1 * 35 * 10 * 256
  | .singleSidedDoubleDensity => 1 * 35 * 10 * 512
  | .doubleSidedDoubleDensity => 2 * 35 * 10 * 512

/-- `createBlank(size)`: all zero, the host's to mount (R259). -/
def createBlank (size : BlankSize) : List Byte := List.replicate (blankLength size) 0#8

/-- What the host's file of unit `u` holds: the bytes of the last persist that succeeded (R254; assumption 25). -/
def hostFile (u : Nat) : List HostCall → Option (List Byte)
  | [] => none
  | .persist w bytes true :: rest => if w = u then some bytes else hostFile u rest
  | .persist _ _ false :: rest => hostFile u rest
  | .readFirmwareByte _ :: rest => hostFile u rest
  | .readScreenByte _ :: rest => hostFile u rest
  | .writeScreenByte _ _ :: rest => hostFile u rest

/-- One host move (R9). -/
def hostStep (h : HostOp) (s : State) : Host.Outcome State Fault Refusal :=
  match h with
  | .mount u image =>
    if 1 ≤ u ∧ hasUnit s u = true then .next (mountImage u image s) else .refused .noSuchUnit
  | .mountFailed u =>
    if 1 ≤ u ∧ hasUnit s u = true then .next (mountNothing u s) else .refused .noSuchUnit
  | .unmount u => if hasUnit s u then .next (unmountDrive u s) else .refused .noSuchUnit
  | .commit u => if hasUnit s u then .next (commitDrive u s) else .refused .noSuchUnit
  | .setAutoCommit on => .next { s with autoCommitConfig := on }
  | .setReadOnly u on => if hasUnit s u then .next (setReadOnlyFlag u on s) else .refused .noSuchUnit
  | .reboot v images clearRam => .next (rebootBlock v images clearRam s)
  | .motorPoll now => .next (pollMotors now s)
  | .createBlank _ => .next s

end Sys2Proof.Machine
end

