-- ==== Sys2Proof/Machine/Step.lean ====
section
/-! DEFINITION. One step: the oldest queued input, a bus operation of the CPU loop or a move of the host (00_scope.md
R8, R9; 20_memory.md R72). The block has no program counter and fetches nothing of its own (R21): the queue is where
its instructions come from (assumption 7). -/

namespace Sys2Proof.Machine

/-- One step of the block. -/
def step (s : State) : Host.Outcome State Fault Refusal :=
  match s.pending with
  | [] => .refused .noPendingOperation
  | .bus op :: rest => exec (decodeOp s.c.variant op) { s with pending := rest }
  | .host h :: rest => hostStep h { s with pending := rest }

/-- The state whose next input is a bus operation meant for controller `v`: that controller installed if another one
is, and no fault recorded (assumption 12). -/
def State.withOp (v : Variant) (op : BusOp) (s : State) : State :=
  let ready : State := if s.c.variant = v then s else installController v s
  { ready with fault := none, pending := .bus op :: s.pending }

/-- `s` with the table word's bus operation as its next input (assumptions 11 and 12); for a word that is no record,
`s` with no input queued. -/
def State.withFetchWord (s : State) (nbits w : Nat) : State :=
  match tableRequest nbits w with
  | some op => s.withOp (tableVariant nbits w) op
  | none => { s with pending := [] }

end Sys2Proof.Machine
end

