-- ==== Sys2Proof/Machine/Pseudo.lean ====
section
/-! DEFINITION. The pseudo-operations of 30_encoding.md R96, each a fixed sequence of instructions. -/

namespace Sys2Proof

/-- `SD.STEPIN`. -/
def sdStepIn : List Instr :=
  [.sdStpdir false false false 1#2, .sdStpff false false false 1#2, .sdStpff false false false 0#2]

/-- `SD.STEPOUT`. -/
def sdStepOut : List Instr :=
  [.sdStpdir false false false 0#2, .sdStpff false false false 1#2, .sdStpff false false false 0#2]

/-- `DD.STEPIN u, s, d`. -/
def ddStepIn (u : Nat) (side : BitVec 1) (den : Bool) : List Instr :=
  [.ddOrder den side true true (oneHotInv u), .ddOrder den side true false (oneHotInv u)]

/-- `DD.STEPOUT u, s, d`. -/
def ddStepOut (u : Nat) (side : BitVec 1) (den : Bool) : List Instr :=
  [.ddOrder den side false true (oneHotInv u), .ddOrder den side false false (oneHotInv u)]

end Sys2Proof
end

