-- ==== Sys2Proof/Safety.lean ====
section
/-! DEFINITION. What claims speak of: the invariant of the block (10_state.md R22 to R31, 46_host_operations.md R255,
60_exceptions.md R281, 70_reset_and_hazards.md R291), the conditions under which a drive call is accepted
(44_drive_transfer.md), and runs of several instructions. -/

namespace Sys2Proof.Machine

/-! ### The invariant -/

/-- What holds of drive number `u` of a controller of variant `v` whose read-only flag is `readOnly`: R27 and R29, the
byte-remaining counter of a transfer in progress (R205, R211), the bound of the randomized delay (R183), and that
pending data needs a disk (R252). -/
structure Drive.Inv (cfg : Config) (v : Variant) (u : Nat) (readOnly : Bool) (d : Drive) : Prop where
  number    : d.driveNumber = u
  track     : d.currentTrack ≤ 34
  sector    : d.currentSector ≤ 9
  sink      : u = 0 → d.diskBuffer = none
  sdSingle  : v = .sd → d.imageDouble = false
  protect   : d.writeProtect = readOnly
  pending   : d.commitPending = true → d.diskBuffer.isSome = true
  remaining : d.state = .readData ∨ d.state = .writeLeadin ∨ d.state = .writeData → 0 < d.xferRemaining
  bounded   : d.xferRemaining ≤ 512
  jitter    : d.jitterCount ≤ cfg.jitterMax

/-- What holds of the controller. -/
structure Controller.Inv (cfg : Config) (readOnly : List Bool) (c : Controller) : Prop where
  nDrives  : c.drives.length = numUnits c.variant + 1
  selected : c.selectedDrive ≤ numUnits c.variant
  drive    : ∀ (u : Nat) (d : Drive), c.drives[u]? = some d → Drive.Inv cfg c.variant u (readOnlyOf readOnly u) d
  sdOrder  : c.variant = .sd → c.orderDouble = false ∧ c.orderSide = 0#1
  rom      : c.firmwareROM = cfg.firmwareROM
  motors   : c.motorsRunning = true → c.lastMotorActivity.isSome = true

/-- The invariant of the block. -/
structure State.Inv (s : State) : Prop where
  ram   : s.ram.wf = true
  flags : s.readOnlyConfig.length = 5
  ctl   : Controller.Inv s.cfg s.readOnlyConfig s.c

/-- The selection names a drive record: the part of the invariant that most statements need. -/
abbrev State.SelOk (s : State) : Prop := s.c.selectedDrive < s.c.drives.length

/-! ### When a drive call is accepted -/

/-- `readByte` answers a byte: the drive is in a scan state or in a read sequence, and the byte it streams lies inside
the image, if there is one (R205 to R209, R221). -/
def readAccepts (env : DriveEnv) (d : Drive) : Bool :=
  match d.state with
  | .sectorScan | .windowOpen | .windowClose =>
    match d.diskBuffer with
    | none => true
    | some buf => d.offset env.variant env.orderSide < buf.length
  | .readData =>
    match d.diskBuffer with
    | none => true
    | some buf => d.xferOffset < buf.length
  | .readCrc => true
  | .readEnd | .writeLeadin | .writeData | .writeCrc | .writeEnd => false

/-- `writeByte` succeeds: no density mismatch, one of the three accepting states, and the byte, if stored, lies inside
the image (R213 to R219, R221). -/
def writeAccepts (env : DriveEnv) (d : Drive) : Bool :=
  !densityMismatch env d &&
    match d.state with
    | .writeLeadin | .writeCrc => true
    | .writeData =>
      match d.diskBuffer with
      | none => true
      | some buf => d.writeProtect || d.xferOffset < buf.length
    | .sectorScan | .windowOpen | .windowClose | .readData | .readCrc | .readEnd | .writeEnd => false

/-! ### Several operations in a row -/

/-- The drive after `n` updates that are no B-status probe (R190). -/
def Drive.updates (cfg : Config) : Nat → Drive → Drive
  | 0, d => d
  | n + 1, d => Drive.updates cfg n (d.update cfg false 0)

/-- The bytes that `n` calls of `readByte` return, and the drive after them: none if a call faults (R222). -/
def Drive.readMany (env : DriveEnv) : Nat → Drive → Option (List Byte × Drive)
  | 0, d => some ([], d)
  | n + 1, d =>
    match d.readByte env with
    | .fault _ _ => none
    | .ok b d' _ => (Drive.readMany env n d').map fun r => (b :: r.1, r.2)

/-- The drive after `writeByte` of each byte in turn: none if a call faults or fails (R224). -/
def Drive.writeMany (env : DriveEnv) : List Byte → Drive → Option Drive
  | [], d => some d
  | v :: rest, d =>
    match d.writeByte env v with
    | .ok true d' _ => Drive.writeMany env rest d'
    | .ok false _ _ => none
    | .fault _ _ => none

/-- The CRC over a byte sequence: the fold of `CrcStep` from 0 (R222). -/
def crcOf (bytes : List Byte) : Byte := bytes.foldl crcStep 0

/-- The state after a list of instructions, run one after the other: none as soon as one stops. -/
def runInstrs : List Instr → State → Option State
  | [], s => some s
  | i :: rest, s =>
    match exec i s with
    | .next s' => runInstrs rest s'
    | .fault _ => none
    | .refused _ => none

/-- The results of `n` repetitions of an instruction, and the state after them (R222). -/
def repeatInstr (i : Instr) : Nat → State → Option (List BusResult × State)
  | 0, s => some ([], s)
  | n + 1, s =>
    match exec i s with
    | .next s' => (repeatInstr i n s').map fun r => (s'.result :: r.1, r.2)
    | .fault _ => none
    | .refused _ => none

end Sys2Proof.Machine
end

