-- ==== Sys2Proof/Certificates/Slice0/Obligations.lean ====
section
/-! DEFINITION. The statements for the provers, from the numbered rules of spec/. Every draw of the spec appears as its
opaque constant or under an existential, so a statement holds for every draw; every open parameter is a field of
`s.cfg`, so a statement holds for every choice of it. -/

open Sys2Proof Sys2Proof.Machine

/-! ### The words the statements are written in -/

namespace Sys2Proof.Claims

/-- A live state with an SD controller whose selection names a drive. -/
structure OnSd (s : State) : Prop where
  live : s.fault = none
  sd   : s.c.variant = .sd
  sel  : s.SelOk

/-- A live state with a DD controller whose selection names a drive. -/
structure OnDd (s : State) : Prop where
  live : s.fault = none
  dd   : s.c.variant = .dd
  sel  : s.SelOk

/-- The selected drive after the update a dispatch runs first, with argument `r` (R180). -/
abbrev updated (r : Bool) (s : State) : Drive := s.sel.update s.cfg r (Config.jitterDraw (s.draws + 1))

/-- What a drive operation of the dispatch reads of the block: the parameters, the variant, the order fields, the
auto-commit flag, and the drawn outcome of a persist. -/
abbrev envOf (s : State) : DriveEnv where
  cfg := s.cfg
  variant := s.c.variant
  orderDouble := s.c.orderDouble
  orderSide := s.c.orderSide
  autoCommit := s.autoCommitConfig
  persistOk := Config.persistDraw (s.draws + 1)

/-- What an operation leaves alone: every byte of RAM, the parameters, the host's flags, the queue, the controller's
variant and ROM, the number of drives, and every drive not listed. -/
structure Frame (touched : List Nat) (s t : State) : Prop where
  ram      : ∀ a : Addr, t.ram.read a = s.ram.read a
  cfg      : t.cfg = s.cfg
  auto     : t.autoCommitConfig = s.autoCommitConfig
  readOnly : t.readOnlyConfig = s.readOnlyConfig
  pending  : t.pending = s.pending
  variant  : t.c.variant = s.c.variant
  rom      : t.c.firmwareROM = s.c.firmwareROM
  nDrives  : t.c.drives.length = s.c.drives.length
  others   : ∀ u, u ∉ touched → t.c.drive u = s.c.drive u

/-- The order fields stay. -/
def SameOrders (s t : State) : Prop := t.c.orderDouble = s.c.orderDouble ∧ t.c.orderSide = s.c.orderSide

/-- The motor bookkeeping of a dispatch that is no PROM read (R281). -/
def MotorsTouched (s t : State) : Prop :=
  t.c.motorsRunning = true ∧ t.c.lastMotorActivity = some (Config.hostTime (s.draws + 1))

/-- What a command that does not select leaves alone, with its bookkeeping. -/
structure CommandFrame (s t : State) : Prop where
  frame    : Frame [s.c.selectedDrive] s t
  selected : t.c.selectedDrive = s.c.selectedDrive
  orders   : SameOrders s t
  motors   : MotorsTouched s t

/-- The end of an SD command without fault, from the drive its effect left: the streamed byte for `D = 1`, the status
byte `B` chooses for `D = 0` (R124). -/
def EndsSd (d b : Bool) (env : DriveEnv) (after : Drive) (t : State) : Prop :=
  t.fault = none ∧
    (d = false → t.sel = after ∧
      t.result = .byte (if b then statusBSd t.cfg (viewOf t.c after) else statusASd t.cfg (viewOf t.c after))) ∧
    (d = true → ∃ x d', after.readByte env = .ok x d' [] ∧ t.sel = d' ∧ t.result = .byte x)

/-- The end of a DD command without fault, from the drive its effect left: the byte the mux chooses, any byte for the
values the source does not list (R156). -/
def EndsDd (mux : BitVec 4) (env : DriveEnv) (after : Drive) (t : State) : Prop :=
  t.fault = none ∧
    (mux = 1#4 → t.sel = after ∧ t.result = .byte (statusADd t.cfg (viewOf t.c after))) ∧
    (mux = 2#4 → t.sel = after ∧ t.result = .byte (statusBDd t.cfg (viewOf t.c after))) ∧
    (mux = 3#4 → t.sel = after ∧ t.result = .byte (statusCDd t.cfg (viewOf t.c after))) ∧
    (mux = 4#4 → ∃ x d', after.readByte env = .ok x d' [] ∧ t.sel = d' ∧ t.result = .byte x) ∧
    (mux ≠ 1#4 → mux ≠ 2#4 → mux ≠ 3#4 → mux ≠ 4#4 → t.sel = after ∧ ∃ x, t.result = .byte x)

/-- A dispatch that faults: the record, no byte, the drive as it stood (R270). Its frame has the motor fields set, also
by a dispatch that faults: R281 does not say when in a dispatch they are, the model does it first (assumption 15). -/
structure EndsFaulted (r : FaultRecord) (after : Drive) (s t : State) : Prop where
  frame    : CommandFrame s t
  record   : t.fault = some r
  noResult : t.result = .none
  drive    : t.sel = after
  noCalls  : t.calls = s.calls

/-- A drive as `StartWrite` leaves it (R211), for an offset and a sector size. -/
def writeStarted (s : State) (offset size : Nat) (d : Drive) : Drive :=
  { d with
    autoCommit := s.autoCommitConfig
    xferOffset := offset
    xferRemaining := size
    leadinSync := false
    crc := 0
    writeReady := true
    state := .writeLeadin
    stateCounter := s.cfg.escapeWriteLeadin + 1 }

/-- A drive as `StartRead` leaves it (R206), for an offset and a sector size. -/
def readStarted (offset size : Nat) (d : Drive) : Drive :=
  { d with xferOffset := offset, xferRemaining := size, crc := 0, state := .readData }

/-- A command that reads a data byte, `SEL` and `WRT` apart, with the drive its update (of argument `b`) and its effect
leave for that read (R124, R156). -/
def ReadsDataFrom (s : State) (b : Bool) (i : Instr) (d : Drive) : Prop :=
  (s.c.variant = .sd ∧ ∃ (x : Bool) (p : BitVec 2),
    (i, d) ∈ [(Instr.sdIntr x true b p, updated b s), (.sdNop x true b p, updated b s),
      (.sdReset x true b p, updated b s), (.sdRsf x true b p, { updated b s with sectorHoleDetected := false }),
      (.sdStpff x true b p, (updated b s).setStepFlipFlop (p.getLsbD 0)),
      (.sdStpdir x true b p, { updated b s with stepDirection := if p.getLsbD 0 then .inward else .outward })]) ∨
  (s.c.variant = .dd ∧ b = false ∧
    (i, d) ∈ [(Instr.ddNop 4#4, updated b s), (.ddIntr2 4#4, updated b s), (.ddIntr3 4#4, updated b s),
      (.ddBody 4#4, updated b s), (.ddMotor 4#4, updated b s), (.ddReset 4#4, updated b s),
      (.ddRsf 4#4, { updated b s with sectorHoleDetected := false })])

/-- The data-write row of the installed controller, with no density mismatch: its instruction for a byte (R122,
R152). -/
def IsDataWrite (s : State) (v : Byte) (i : Instr) : Prop :=
  (s.c.variant = .sd ∧ i = .sdWdata v) ∨
    (s.c.variant = .dd ∧ i = .ddWdata v ∧ densityMismatch (envOf s) s.sel = false)

/-- What a host move on the drive of unit `u` leaves alone: besides `Frame`, the fault record (R35) and every field of the
controller but its drives. -/
structure HostFrame (u : Nat) (s t : State) : Prop where
  frame : Frame [u] s t
  fault : t.fault = s.fault
  ctl   : t.c = { s.c with drives := t.c.drives }

/-- Two states that differ at most in the motor fields. -/
def SameButMotors (s t : State) : Prop :=
  { s with c := { s.c with motorsRunning := false, lastMotorActivity := none } } =
    { t with c := { t.c with motorsRunning := false, lastMotorActivity := none } }

/-- Sector 0..9 of track 0..34. -/
def OnDisk (d : Drive) : Prop := d.currentTrack ≤ 34 ∧ d.currentSector ≤ 9

end Sys2Proof.Claims

open Sys2Proof.Claims

/-! ### Encoding and the step -/

/-- The assembler examples of R95 and the decode tables of 95_test_vectors.md, from their addresses. -/
def Obligations.ExampleAddressesDecode : Prop :=
  decodeOp .sd (.readByte 0xEB21) = .sdSel false false true 1 ∧
  decodeOp .sd (.readByte 0xEB50) = .sdNop false true false 0 ∧
  decodeOp .sd (.readByte 0xEB1D) = .sdStpdir false false false 1 ∧
  decodeOp .sd (.readByte 0xEB0B) = .sdStpff false false false 3 ∧
  decodeOp .sd (.readByte 0xEB90) = .sdNop true false false 0 ∧
  decodeOp .sd (.readByte 0xE9FF) = .sdProm1 0xFF ∧
  decodeOp .sd (.readByte 0xEAFB) = .sdWdata 0xFB ∧
  decodeOp .dd (.readByte 0xEB21) = .ddRsf 2 ∧
  decodeOp .dd (.readByte 0xEB16) = .ddWrt 1 ∧
  decodeOp .dd (.readByte 0xEB4F) = .ddUndef 4 7 ∧
  decodeOp .dd (.readByte 0xEA81) = .ddOrder true 0 false false 1 ∧
  decodeOp .dd (.readByte 0xEAC2) = .ddOrder true 1 false false 2 ∧
  decodeOp .dd (.readByte 0xE9A1) = .ddWdata 0xA1 ∧
  decodeOp .sd (.readByte 0xE7FF) = .rd 0xE7FF ∧
  decodeOp .dd (.readByte 0xEC00) = .rd 0xEC00

/-- Decode of encode is the identity on well-formed instructions, at every value of every operand: as bus operation, as
five-byte record in front of any bytes, and as 40-bit table word (the record and the table word are the model's layout,
assumption 11). -/
def Obligations.DecodeOfEncodeIsIdentity : Prop :=
  ∀ (v : Variant) (i : Instr) (rest : List Byte), i.wf v = true →
    decodeOp v (encodeOp i) = i ∧ decodeBytes v (encode i ++ rest) = .ok (i, rest) ∧
      decodeTableWord 40 (encodeTableWord v i) = some i

/-- Every bus operation decodes to a well-formed instruction whose encoding it is: every address is legal for every
kind and no bit of it is lost (R81, R84). -/
def Obligations.EncodeOfDecodeIsIdentity : Prop :=
  ∀ (v : Variant) (op : BusOp), encodeOp (decodeOp v op) = op ∧ (decodeOp v op).wf v = true

/-- A step takes the oldest queued input: a bus operation is decoded for the installed controller and executed, a host
move is made; with nothing queued there is no step (assumption 7). -/
def Obligations.StepRunsTheNextInput : Prop :=
  ∀ (s : State) (rest : List Event),
    (∀ op, s.pending = .bus op :: rest →
      step s = exec (decodeOp s.c.variant op) { s with pending := rest }) ∧
    (∀ h, s.pending = .host h :: rest → step s = hostStep h { s with pending := rest }) ∧
    (s.pending = [] → step s = .refused .noPendingOperation)

/-- A placed table word runs as the next instruction, on a live state with the controller it is meant for, which is the
state itself where that already holds (assumption 12). -/
def Obligations.PlacedWordRunsNext : Prop :=
  ∀ (s : State) (nbits w : Nat) (i : Instr), decodeTableWord nbits w = some i →
    ∃ t, step (s.withFetchWord nbits w) = exec i t ∧ t.fault = none ∧ t.pending = s.pending ∧
      t.c.variant = tableVariant nbits w ∧ t.cfg = s.cfg ∧ (∀ a, t.ram.read a = s.ram.read a) ∧
      (s.c.variant = tableVariant nbits w → s.fault = none → t = s)

/-- Each controller form stands for exactly one bus operation, the byte read of its address (R95), in every state; and a
byte read inside the floppy range is the row its address decodes to (R100, R104). -/
def Obligations.ControllerRowIsItsByteRead : Prop :=
  (∀ (i : Instr) (s : State), i.needsVariant ≠ none → exec i s = exec (.rd (encodeAddr i)) s) ∧
    ∀ (a : Addr) (s : State), inFloppy a = true → exec (.rd a) s = exec (decodeOp s.c.variant (.readByte a)) s

/-! ### Faults, liveness and what no instruction changes -/

/-- While a fault is recorded no bus operation is enabled, and no host move but a reboot clears or changes the record
(R35, R270). -/
def Obligations.NoStepAfterAFault : Prop :=
  (∀ (i : Instr) (s : State) (r : FaultRecord), s.fault = some r → exec i s = .fault (.halted r)) ∧
    ∀ (h : HostOp) (s t : State), (∀ v images clearRam, h ≠ .reboot v images clearRam) → hostStep h s = .next t →
      t.fault = s.fault

/-- In a live state every instruction answers a next state; if it recorded a fault it returned nothing (R270), and a read
that recorded none returned a value. -/
def Obligations.LiveOperationsAnswer : Prop :=
  ∀ (i : Instr) (s : State), s.fault = none →
    ∃ t, exec i s = .next t ∧ (t.fault ≠ none → t.result = .none) ∧
      (t.fault = none → (∀ a v, i ≠ .wr a v) → (∀ a w, i ≠ .wrw a w) → t.result ≠ .none)

/-- No bus operation changes the parameters, the host's flags, the queue, the installed variant, the ROM or the number of
drives; only a bus write changes RAM (R94, R70, R101). -/
def Obligations.BusOperationsKeepFixedState : Prop :=
  ∀ (i : Instr) (s t : State), exec i s = .next t →
    t.cfg = s.cfg ∧ t.autoCommitConfig = s.autoCommitConfig ∧ t.readOnlyConfig = s.readOnlyConfig ∧
      t.pending = s.pending ∧ t.c.variant = s.c.variant ∧ t.c.firmwareROM = s.c.firmwareROM ∧
      t.c.drives.length = s.c.drives.length ∧
      ((∀ a v, i ≠ .wr a v) → (∀ a w, i ≠ .wrw a w) → ∀ a, t.ram.read a = s.ram.read a)

/-- One byte operation touches no drive but the one selected before it and the one selected after it: a drive that is not
selected is not updated (R189). A word read is two byte operations and is left out. -/
def Obligations.UnselectedDrivesAreUntouched : Prop :=
  ∀ (i : Instr) (s t : State) (u : Nat), (∀ a, i ≠ .rdw a) → exec i s = .next t →
    u ≠ s.c.selectedDrive → u ≠ t.c.selectedDrive → t.c.drive u = s.c.drive u

/-- No bus operation mounts, unmounts or resizes an image, and none changes a byte of a write-protected one (R219). -/
def Obligations.ImagesKeepLengthAndProtection : Prop :=
  ∀ (i : Instr) (s t : State) (u : Nat), exec i s = .next t →
    (t.c.drive u).diskBuffer.map List.length = (s.c.drive u).diskBuffer.map List.length ∧
      (t.c.drive u).writeProtect = (s.c.drive u).writeProtect ∧
      ((s.c.drive u).writeProtect = true → (t.c.drive u).diskBuffer = (s.c.drive u).diskBuffer)

/-- Motor bookkeeping is advisory: states that differ only in it run every instruction to states that differ only in it,
with the same result and the same fault (R281). -/
def Obligations.MotorStateIsAdvisory : Prop :=
  ∀ (i : Instr) (s s' : State), SameButMotors s s' →
    (∀ t, exec i s = .next t → ∃ t', exec i s' = .next t' ∧ SameButMotors t t') ∧
      (∀ r, exec i s = .fault r → exec i s' = .fault r)

/-- The state after power-on meets the invariant. Power-on is here the SD machine with no image, the model's choice
(assumptions 4 and 5): R290 leaves both to the host. -/
def Obligations.ResetMeetsInvariant : Prop := State.reset.Inv

/-- Every step, of the CPU loop or of the host, keeps the invariant: the canonical form of RAM, the number of drives and
the selection inside it, head and sector in range, no disk in the sink, write protection as the host's flag says, the
byte counters of transfers in progress, the ROM, and the SD controller's order fields (R22 to R30, R255, R281, R291). -/
def Obligations.StepKeepsInvariant : Prop :=
  ∀ s t : State, s.Inv → step s = .next t → t.Inv

/-- Reset leaves what the spec gives: no fault, the sink selected, motors off, order fields neutral, and every drive at
its reset column, each field spelt out, head and sector at some place in range (R27, R290). The variant SD and the
absence of images are the model's choice (assumptions 4 and 5). -/
def Obligations.ResetValues : Prop :=
  State.reset.fault = none ∧ State.reset.c.selectedDrive = 0 ∧ State.reset.c.motorsRunning = false ∧
    State.reset.c.lastMotorActivity = none ∧ State.reset.c.orderDouble = false ∧ State.reset.c.orderSide = 0#1 ∧
    State.reset.c.firmwareROM = State.reset.cfg.firmwareROM ∧
    State.reset.c.drives.length = numUnits State.reset.c.variant + 1 ∧
    ∀ u d, State.reset.c.drives[u]? = some d →
      ∃ t k, t ≤ 34 ∧ k ≤ 9 ∧ d = Drive.powerOn u (readOnlyOf State.reset.readOnlyConfig u) t k ∧
        d =
          { driveNumber := u
            diskBuffer := none
            fileName := none
            writeProtect := readOnlyOf State.reset.readOnlyConfig u
            autoCommit := false
            commitPending := false
            imageDouble := false
            currentTrack := t
            currentSector := k
            stepDirection := .outward
            stepFlipFlop := false
            sectorHoleDetected := false
            syncDetected := false
            inWindow := false
            writeReady := false
            state := .sectorScan
            stateCounter := 0
            crc := 0
            jitterArmed := false
            jitterCount := 0
            xferOffset := 0
            xferRemaining := 0
            leadinSync := false }

/-! ### The bus -/

/-- A byte read outside the floppy range returns the RAM byte, or any byte of the video collaborator, and changes nothing
in the block (R100, R105). -/
def Obligations.ReadOutsideFloppyHasNoEffect : Prop :=
  ∀ (s : State) (a : Addr), s.fault = none → inFloppy a = false →
    ∃ t, exec (.rd a) s = .next t ∧ t.fault = none ∧ t.c = s.c ∧ t.ram = s.ram ∧ Frame [] s t ∧
      (route s.cfg a = .ram → t.result = .byte (s.ram.read a) ∧ t.calls = s.calls) ∧
      (route s.cfg a = .firmware → (∃ x, t.result = .byte x) ∧ t.calls = .readFirmwareByte a :: s.calls) ∧
      (route s.cfg a = .display → (∃ x, t.result = .byte x) ∧ t.calls = .readScreenByte a :: s.calls)

/-- The region of an address: the floppy range 0xE800..0xEBFF first, then the firmware range, then the display range,
else RAM (R62, R63). A byte write stores into RAM, calls the display, and is discarded elsewhere: it reaches no
controller (R101). -/
def Obligations.ByteWriteGoesWhereItsRegionSays : Prop :=
  (∀ (cfg : Config) (a : Addr),
    (inFloppy a = true ↔ 0xE800 ≤ a.toNat ∧ a.toNat ≤ 0xEBFF) ∧
    route cfg a =
      if 0xE800 ≤ a.toNat ∧ a.toNat ≤ 0xEBFF then .floppy
      else if cfg.fwLo.toNat ≤ a.toNat ∧ a.toNat ≤ cfg.fwHi.toNat then .firmware
      else if cfg.dispLo.toNat ≤ a.toNat ∧ a.toNat ≤ cfg.dispHi.toNat then .display
      else .ram) ∧
  ∀ (s : State) (a : Addr) (v : Byte), s.fault = none → s.ram.wf = true →
    ∃ t, exec (.wr a v) s = .next t ∧ t.fault = none ∧ t.result = .none ∧ t.c = s.c ∧
      (∀ b, b ≠ a → t.ram.read b = s.ram.read b) ∧
      (t.ram.read a = if route s.cfg a = .ram then v else s.ram.read a) ∧
      (t.calls = if route s.cfg a = .display then .writeScreenByte a v :: s.calls else s.calls)

/-- A word read is the byte read at `a` and then, unless that faulted, the byte read at `second(a)`, low byte first
(R65, R67, R102). -/
def Obligations.WordReadIsTwoByteReads : Prop :=
  ∀ (s s1 : State) (a : Addr), exec (.rd a) s = .next s1 →
    (s1.fault ≠ none → exec (.rdw a) s = .next s1) ∧
      (∀ s2, s1.fault = none → exec (.rd (if a = 0xFFFF then 0xFFFF else a + 1)) s1 = .next s2 →
        (s2.fault ≠ none → exec (.rdw a) s = .next s2) ∧
        (s2.fault = none → ∀ lo hi, s1.result = .byte lo → s2.result = .byte hi →
          exec (.rdw a) s = .next { s2 with result := .word (hi ++ lo) }))

/-- A word read whose bytes both lie outside the floppy range completes and changes nothing in the block; from RAM it is
the little-endian pair (R102). -/
def Obligations.WordReadOutsideFloppyCompletes : Prop :=
  ∀ (s : State) (a : Addr), s.fault = none → inFloppy a = false → inFloppy (second a) = false →
    ∃ t w, exec (.rdw a) s = .next t ∧ t.fault = none ∧ t.result = .word w ∧ t.c = s.c ∧ t.ram = s.ram ∧
      (route s.cfg a = .ram → lowByte w = s.ram.read a) ∧
      (route s.cfg (second a) = .ram → highByte w = s.ram.read (second a))

/-- A word write is the low byte's write at `a` and then the high byte's at `second(a)`; at `0xFFFF` the high byte
overwrites the low one (R103). -/
def Obligations.WordWriteIsTwoByteWrites : Prop :=
  ∀ (s : State) (a : Addr) (w : Word16), s.fault = none → s.ram.wf = true →
    ∃ s1 t, exec (.wr a (w.extractLsb' 0 8)) s = .next s1 ∧
      exec (.wr (if a = 0xFFFF then 0xFFFF else a + 1) (w.extractLsb' 8 8)) s1 = .next t ∧
      exec (.wrw a w) s = .next t ∧ t.fault = none ∧ t.c = s.c ∧ t.result = .none ∧
      (∀ b, b ≠ a → b ≠ second a → t.ram.read b = s.ram.read b) ∧
      (route s.cfg a = .ram → a ≠ 0xFFFF → t.ram.read a = w.extractLsb' 0 8) ∧
      (route s.cfg (second a) = .ram → t.ram.read (second a) = w.extractLsb' 8 8)

/-! ### The SD controller -/

/-- Both SD PROM pages return the ROM byte of their index and change nothing (R121). -/
def Obligations.SdPromReadsReturnTheRomByte : Prop :=
  ∀ (s : State) (k : Byte), s.fault = none → s.c.variant = .sd →
    ∃ t, exec (.sdProm k) s = .next t ∧ exec (.sdProm1 k) s = .next t ∧
      t = { s with result := .byte (s.c.firmwareROM[k.toNat]'k.isLt) }

/-- SD commands 3, 4 and 6 run the update and return their result, with `D` set for a read the drive accepts, and change
nothing else (R123, R128, R129, R131). -/
def Obligations.SdNoOpCommandsComplete : Prop :=
  ∀ (s : State) (x d b : Bool) (p : BitVec 2), OnSd s →
    (d = true → readAccepts (envOf s) (updated b s) = true) →
    ∀ i ∈ [Instr.sdIntr x d b p, Instr.sdNop x d b p, Instr.sdReset x d b p],
      ∃ t, exec i s = .next t ∧ CommandFrame s t ∧ t.calls = s.calls ∧ EndsSd d b (envOf s) (updated b s) t

/-- `SD.RSF` clears the sector flag, also one its own update set (R130). -/
def Obligations.SdRsfClearsTheSectorFlag : Prop :=
  ∀ (s : State) (x d b : Bool) (p : BitVec 2), OnSd s →
    (d = true → readAccepts (envOf s) (updated b s) = true) →
    ∃ t, exec (.sdRsf x d b p) s = .next t ∧ CommandFrame s t ∧ t.calls = s.calls ∧
      t.sel.sectorHoleDetected = false ∧
      EndsSd d b (envOf s) { updated b s with sectorHoleDetected := false } t

/-- `SD.STPFF` stores `p[0]` in the latch and moves the head one track on the falling edge only, by the latched direction,
clamped to 0..34 (R127, R240, R241, R243). -/
def Obligations.SdStpffMovesTheHeadOnTheFallingEdge : Prop :=
  ∀ (s : State) (x d b : Bool) (p : BitVec 2) (after : Drive), OnSd s →
    after =
      { updated b s with
        stepFlipFlop := p.getLsbD 0
        currentTrack :=
          if s.sel.stepFlipFlop = true ∧ p.getLsbD 0 = false then
            (if s.sel.stepDirection = .inward then min (s.sel.currentTrack + 1) 34 else s.sel.currentTrack - 1)
          else s.sel.currentTrack } →
    (d = true → readAccepts (envOf s) after = true) →
    ∃ t, exec (.sdStpff x d b p) s = .next t ∧ CommandFrame s t ∧ t.calls = s.calls ∧ EndsSd d b (envOf s) after t

/-- `SD.STPDIR` latches the direction, 1 inward and 0 outward, and does not move the head (R132, R242). -/
def Obligations.SdStpdirLatchesTheDirection : Prop :=
  ∀ (s : State) (x d b : Bool) (p : BitVec 2), OnSd s →
    (d = true → readAccepts (envOf s) (updated b s) = true) →
    ∃ t, exec (.sdStpdir x d b p) s = .next t ∧ CommandFrame s t ∧ t.calls = s.calls ∧
      t.sel.currentTrack = s.sel.currentTrack ∧
      EndsSd d b (envOf s) { updated b s with stepDirection := if p.getLsbD 0 then .inward else .outward } t

/-- `SD.SEL p` with `p` in 1..3: the update runs on the drive selected before, the selection changes, the result is read
from the drive selected after; with `D` set, a drive selected after that is in `READ_END` or a write state, or whose next
byte lies at or beyond its image's length, faults with the new selection standing (R125, R207, R209, R221, R270, R303).
That a faulting dispatch has set the motor fields is the model's choice (assumption 15). -/
def Obligations.SdSelSelectsTheUnit : Prop :=
  ∀ (s : State) (x d b : Bool) (p : BitVec 2) (after : Drive), OnSd s → s.c.drives.length = 4 → p ≠ 0#2 →
    after = (if p.toNat = s.c.selectedDrive then updated b s else s.c.drive p.toNat) →
    ∃ t, exec (.sdSel x d b p) s = .next t ∧ Frame [s.c.selectedDrive, p.toNat] s t ∧
      t.c.selectedDrive = p.toNat ∧ SameOrders s t ∧ MotorsTouched s t ∧ t.calls = s.calls ∧
      (p.toNat ≠ s.c.selectedDrive → t.c.drive s.c.selectedDrive = updated b s) ∧
      ((d = true → readAccepts (envOf s) after = true) → EndsSd d b (envOf s) after t) ∧
      (d = true → after.state ∈ [DriveState.readEnd, .writeLeadin, .writeData, .writeCrc, .writeEnd] →
        t.fault = some (.internalConsistency .readByte after.state after.driveNumber
          (encodeAddr (.sdSel x d b p))) ∧ t.result = .none ∧ t.sel = after) ∧
      (∀ buf off, d = true → isScan after.state = true → after.diskBuffer = some buf →
        off = (after.currentTrack * 10 + after.currentSector) * 256 → buf.length ≤ off →
        t.fault = some (.imageBounds after.driveNumber off (encodeAddr (.sdSel x d b p))) ∧ t.result = .none ∧
          t.sel = readStarted off 256 after) ∧
      (∀ buf, d = true → after.state = .readData → after.diskBuffer = some buf → buf.length ≤ after.xferOffset →
        t.fault = some (.imageBounds after.driveNumber after.xferOffset (encodeAddr (.sdSel x d b p))) ∧
          t.result = .none ∧ t.sel = after)

/-- `SD.SEL 0` faults after the update (R125, R272, R302). That the faulting dispatch has set the motor fields is the
model's choice (assumption 15). -/
def Obligations.SdSelZeroFaults : Prop :=
  ∀ (s : State) (x d b : Bool), OnSd s →
    ∃ t, exec (.sdSel x d b 0#2) s = .next t ∧
      EndsFaulted (.selectUnitZero (encodeAddr (.sdSel x d b 0#2))) (updated b s) s t

/-- Selecting a unit twice leaves the selection as selecting it once does (R133). -/
def Obligations.SelectingTwiceSelectsOnce : Prop :=
  ∀ (s s1 s2 : State) (x d b x' d' b' : Bool) (p : BitVec 2), s.c.variant = .sd → p ≠ 0#2 →
    exec (.sdSel x d b p) s = .next s1 → exec (.sdSel x' d' b' p) s1 = .next s2 →
    s1.c.selectedDrive = p.toNat ∧ s2.c.selectedDrive = s1.c.selectedDrive

/-- `SD.WRT` in a scan state begins a write sequence at the drive's position (R126, R203, R210, R211). -/
def Obligations.SdWrtBeginsTheWriteSequence : Prop :=
  ∀ (s : State) (x b : Bool) (p : BitVec 2) (after : Drive), OnSd s → isScan (updated b s).state = true →
    after =
      writeStarted s (((updated b s).currentTrack * 10 + (updated b s).currentSector) * 256) 256 (updated b s) →
    ∃ t, exec (.sdWrt x false b p) s = .next t ∧ CommandFrame s t ∧ t.calls = s.calls ∧
      EndsSd false b (envOf s) after t

/-- `SD.WRT` in a transfer state faults, and with `D` set it faults on its own result read (R126, R210, R276).
That the faulting dispatch has set the motor fields is the model's choice (assumption 15). -/
def Obligations.SdWrtFaultsOutOfSequence : Prop :=
  ∀ (s : State) (x d b : Bool) (p : BitVec 2), OnSd s →
    (isScan (updated b s).state = false →
      ∃ t, exec (.sdWrt x d b p) s = .next t ∧
        EndsFaulted (.internalConsistency .beginWrite (updated b s).state (updated b s).driveNumber
          (encodeAddr (.sdWrt x d b p))) (updated b s) s t) ∧
    (isScan (updated b s).state = true →
      ∃ t, exec (.sdWrt x true b p) s = .next t ∧
        EndsFaulted (.internalConsistency .readByte .writeLeadin (updated b s).driveNumber
            (encodeAddr (.sdWrt x true b p)))
          (writeStarted s (((updated b s).currentTrack * 10 + (updated b s).currentSector) * 256) 256 (updated b s))
          s t)

/-- A data read out of sequence faults, after the update and the command's effect: in `READ_END` or a write state, for
every command of either controller that can carry it, `SEL` and `WRT` apart (R209, R271, R276). That the
faulting dispatch has set the motor fields is the model's choice (assumption 15). -/
def Obligations.ReadOutOfSequenceFaults : Prop :=
  ∀ (s : State) (i : Instr) (b : Bool) (d : Drive), s.fault = none → s.SelOk → ReadsDataFrom s b i d →
    d.state ∈ [DriveState.readEnd, .writeLeadin, .writeData, .writeCrc, .writeEnd] →
    ∃ t, exec i s = .next t ∧
      EndsFaulted (.internalConsistency .readByte d.state d.driveNumber (encodeAddr i)) d s t

/-- A data read at or beyond the image's length faults: at the start of a read sequence, which is begun all the same, and
inside one, for every command of either controller that can carry it, `SEL` and `WRT` apart (R207, R221, R273). That the
faulting dispatch has set the motor fields is the model's choice (assumption 15). -/
def Obligations.ReadBeyondTheImageFaults : Prop :=
  ∀ (s : State) (i : Instr) (b : Bool) (d : Drive) (buf : List Byte) (off size : Nat), s.fault = none → s.SelOk →
    ReadsDataFrom s b i d → d.diskBuffer = some buf →
    size = (if s.c.variant = .dd ∧ d.imageDouble = true then 512 else 256) →
    off =
      ((if s.c.variant = .dd ∧ s.c.orderSide = 1#1 then 69 - d.currentTrack else d.currentTrack) * 10 +
        d.currentSector) * size →
    (isScan d.state = true → buf.length ≤ off →
      ∃ t, exec i s = .next t ∧
        EndsFaulted (.imageBounds d.driveNumber off (encodeAddr i)) (readStarted off size d) s t) ∧
    (d.state = .readData → buf.length ≤ d.xferOffset →
      ∃ t, exec i s = .next t ∧ EndsFaulted (.imageBounds d.driveNumber d.xferOffset (encodeAddr i)) d s t)

/-! ### Data writes, on either controller -/

/-- A data write of a lead-in byte: padding until the sync byte, then, on DD when it is required, one more byte; every
call reloads the escape counter (R213, R214). -/
def Obligations.DataWriteLeadin : Prop :=
  ∀ (s : State) (i : Instr) (v : Byte), s.fault = none → s.SelOk → IsDataWrite s v i →
    (updated false s).state = .writeLeadin →
    ∃ t x, exec i s = .next t ∧ CommandFrame s t ∧ t.fault = none ∧ t.result = .byte x ∧ t.calls = s.calls ∧
      t.sel =
        (if (updated false s).leadinSync = true then
          { updated false s with state := .writeData, stateCounter := s.cfg.escapeWriteData + 1 }
        else if v = s.cfg.syncByte then
          (if s.c.variant = .dd ∧ (s.c.orderDouble = true ∨ s.cfg.ddSecondByteWhenSingle = true) then
            { updated false s with leadinSync := true, stateCounter := s.cfg.escapeWriteLeadin + 1 }
          else { updated false s with state := .writeData, stateCounter := s.cfg.escapeWriteData + 1 })
        else { updated false s with stateCounter := s.cfg.escapeWriteLeadin + 1 })

/-- A data write of a payload byte: stored at the precomputed offset of a mounted, unprotected image, no other byte of the
image changed; counted in every case; the last one moves the drive to `WRITE_CRC` (R215, R219). -/
def Obligations.DataWritePayload : Prop :=
  ∀ (s : State) (i : Instr) (v : Byte) (d : Drive), s.fault = none → s.SelOk → IsDataWrite s v i →
    d = updated false s → d.state = .writeData →
    (∀ buf, d.diskBuffer = some buf → d.writeProtect = false → d.xferOffset < buf.length) →
    ∃ t x, exec i s = .next t ∧ CommandFrame s t ∧ t.fault = none ∧ t.result = .byte x ∧ t.calls = s.calls ∧
      (∀ buf, d.diskBuffer = some buf → d.writeProtect = false →
        ∃ buf', t.sel.diskBuffer = some buf' ∧ buf'.length = buf.length ∧ buf'[d.xferOffset]? = some v ∧
          ∀ k, k ≠ d.xferOffset → buf'[k]? = buf[k]?) ∧
      (d.diskBuffer = none ∨ d.writeProtect = true → t.sel.diskBuffer = d.diskBuffer) ∧
      ({ t.sel with diskBuffer := d.diskBuffer } : Drive) =
        { d with
          xferOffset := d.xferOffset + 1
          crc := crcStep d.crc v
          xferRemaining := d.xferRemaining - 1
          state := if d.xferRemaining - 1 = 0 then .writeCrc else .writeData
          stateCounter :=
            if d.xferRemaining - 1 = 0 then s.cfg.escapeWriteCrc + 1 else s.cfg.escapeWriteData + 1 }

/-- A data write of the CRC byte: the byte is discarded; a stored sector is persisted at once when auto-commit was on at
`beginWrite`, else marked pending; a failed persist leaves it pending (R216, R254). -/
def Obligations.DataWriteCrc : Prop :=
  ∀ (s : State) (i : Instr) (v : Byte) (d : Drive), s.fault = none → s.SelOk → IsDataWrite s v i →
    d = updated false s → d.state = .writeCrc →
    ∃ t x, exec i s = .next t ∧ CommandFrame s t ∧ t.fault = none ∧ t.result = .byte x ∧
      (d.diskBuffer = none ∨ d.writeProtect = true →
        t.calls = s.calls ∧ t.sel = { d with state := .writeEnd, stateCounter := s.cfg.escapeWriteEnd + 1 }) ∧
      (∀ buf, d.diskBuffer = some buf → d.writeProtect = false → d.autoCommit = false →
        t.calls = s.calls ∧
          t.sel = { d with commitPending := true, state := .writeEnd, stateCounter := s.cfg.escapeWriteEnd + 1 }) ∧
      (∀ buf, d.diskBuffer = some buf → d.writeProtect = false → d.autoCommit = true →
        ∃ ok, t.calls = .persist d.driveNumber buf ok :: s.calls ∧
          t.sel = { d with commitPending := !ok, state := .writeEnd, stateCounter := s.cfg.escapeWriteEnd + 1 })

/-- A data write outside the three accepting states faults, after the update (R217, R271), and so does a payload byte that
would be stored at or beyond the image's length (R215, R221, R273). That the faulting dispatch has set the motor fields
is the model's choice (assumption 15). -/
def Obligations.DataWriteFaults : Prop :=
  ∀ (s : State) (i : Instr) (v : Byte) (d : Drive), s.fault = none → s.SelOk → IsDataWrite s v i →
    d = updated false s →
    (d.state ∉ [DriveState.writeLeadin, .writeData, .writeCrc] →
      ∃ t, exec i s = .next t ∧
        EndsFaulted (.internalConsistency .writeByte d.state d.driveNumber (encodeAddr i)) d s t) ∧
    (∀ buf, d.state = .writeData → d.diskBuffer = some buf → d.writeProtect = false → buf.length ≤ d.xferOffset →
      ∃ t, exec i s = .next t ∧ EndsFaulted (.imageBounds d.driveNumber d.xferOffset (encodeAddr i)) d s t)

/-- A density mismatch on DD fails harmlessly in `DD.WDATA` and in `DD.WRT`: `0x00` is returned and nothing changes beyond
the update, in whatever state the drive is (R152, R159, R166, R212, R218). -/
def Obligations.DdDensityMismatchFailsHarmlessly : Prop :=
  ∀ (s : State) (v : Byte) (mux : BitVec 4), OnDd s → s.c.orderDouble = true → s.sel.diskBuffer ≠ none →
    s.sel.imageDouble = false →
    (∃ t, exec (.ddWdata v) s = .next t ∧ CommandFrame s t ∧ t.fault = none ∧ t.result = .byte 0x00 ∧
      t.calls = s.calls ∧ t.sel = updated false s) ∧
    (∃ t, exec (.ddWrt mux) s = .next t ∧ CommandFrame s t ∧ t.fault = none ∧ t.result = .byte 0x00 ∧
      t.calls = s.calls ∧ t.sel = updated (mux == 2#4) s)

/-! ### The DD controller -/

/-- The DD PROM page returns the ROM byte of its index and changes nothing (R151). -/
def Obligations.DdPromReadReturnsTheRomByte : Prop :=
  ∀ (s : State) (k : Byte), s.fault = none → s.c.variant = .dd →
    exec (.ddProm k) s = .next { s with result := .byte (s.c.firmwareROM[k.toNat]'k.isLt) }

/-- The order register: the order fields, direction and step on the drive selected before, then the one-hot selection;
no update (R153, R154, R158, R300). -/
def Obligations.DdOrderSetsFieldsStepsAndSelects : Prop :=
  ∀ (s : State) (den : Bool) (side : BitVec 1) (dir stp : Bool) (ds : BitVec 4) (way : StepDirection), OnDd s →
    way = (if s.sel.writeReady then s.sel.stepDirection else if dir then .inward else .outward) →
    ∃ t x, exec (.ddOrder den side dir stp ds) s = .next t ∧ Frame [s.c.selectedDrive] s t ∧ t.fault = none ∧
      t.result = .byte x ∧ t.calls = s.calls ∧ MotorsTouched s t ∧ t.c.orderDouble = den ∧ t.c.orderSide = side ∧
      t.c.selectedDrive =
        (if ds = 1#4 then 1 else if ds = 2#4 then 2 else if ds = 4#4 then 3 else if ds = 8#4 then 4 else 0) ∧
      t.c.drive s.c.selectedDrive =
        { s.sel with
          stepDirection := way
          stepFlipFlop := stp
          currentTrack :=
            if s.sel.stepFlipFlop = true ∧ stp = false then
              (if way = .inward then min (s.sel.currentTrack + 1) 34 else s.sel.currentTrack - 1)
            else s.sel.currentTrack }

/-- DD commands 0, 2, 3, 4, 5 and 7 run the update and return the mux result, with the data mux for a read the drive
accepts, and change nothing else (R155, R160, R162 to
R165, R167). -/
def Obligations.DdNoOpCommandsComplete : Prop :=
  ∀ (s : State) (mux : BitVec 4), OnDd s →
    (mux = 4#4 → readAccepts (envOf s) (updated (mux == 2#4) s) = true) →
    ∀ i ∈ [Instr.ddNop mux, Instr.ddIntr2 mux, Instr.ddIntr3 mux, Instr.ddBody mux, Instr.ddMotor mux,
        Instr.ddReset mux],
      ∃ t, exec i s = .next t ∧ CommandFrame s t ∧ t.calls = s.calls ∧
        EndsDd mux (envOf s) (updated (mux == 2#4) s) t

/-- `DD.RSF` clears the sector flag, also one its own update set (R161). -/
def Obligations.DdRsfClearsTheSectorFlag : Prop :=
  ∀ (s : State) (mux : BitVec 4), OnDd s →
    (mux = 4#4 → readAccepts (envOf s) (updated (mux == 2#4) s) = true) →
    ∃ t, exec (.ddRsf mux) s = .next t ∧ CommandFrame s t ∧ t.calls = s.calls ∧ t.sel.sectorHoleDetected = false ∧
      EndsDd mux (envOf s) { updated (mux == 2#4) s with sectorHoleDetected := false } t

/-- `DD.WRT` with no mismatch: in a scan state it begins a write sequence at the drive's position on the ordered side,
and with the data mux it then faults on its own result read; in a transfer state it faults (R166, R204, R210, R211). That
the faulting dispatch has set the motor fields is the model's choice (assumption 15). -/
def Obligations.DdWrtBeginsTheWriteSequence : Prop :=
  ∀ (s : State) (mux : BitVec 4) (d after : Drive) (size : Nat), OnDd s →
    (s.c.orderDouble = true → s.sel.diskBuffer ≠ none → s.sel.imageDouble = true) →
    d = updated (mux == 2#4) s →
    size = (if s.sel.diskBuffer ≠ none ∧ s.sel.imageDouble = true then 512 else 256) →
    after =
      writeStarted s
        (((if s.c.orderSide = 0#1 then d.currentTrack else 69 - d.currentTrack) * 10 + d.currentSector) * size)
        size d →
    (isScan d.state = true → mux ≠ 4#4 →
      ∃ t, exec (.ddWrt mux) s = .next t ∧ CommandFrame s t ∧ t.calls = s.calls ∧ EndsDd mux (envOf s) after t) ∧
    (isScan d.state = true → mux = 4#4 →
      ∃ t, exec (.ddWrt mux) s = .next t ∧
        EndsFaulted (.internalConsistency .readByte .writeLeadin d.driveNumber (encodeAddr (.ddWrt mux))) after s t) ∧
    (isScan d.state = false →
      ∃ t, exec (.ddWrt mux) s = .next t ∧
        EndsFaulted (.internalConsistency .beginWrite d.state d.driveNumber (encodeAddr (.ddWrt mux))) d s t)

/-- A DD command code 8..15 faults after the update and has no other effect but the motor bookkeeping, which
the model does before the fault (R157, R274; assumption 15). -/
def Obligations.DdUndefinedCommandFaults : Prop :=
  ∀ (s : State) (mux : BitVec 4) (low : BitVec 3), OnDd s →
    ∃ t, exec (.ddUndef mux low) s = .next t ∧
      EndsFaulted (.undefinedCommand (encodeAddr (.ddUndef mux low))) (updated (mux == 2#4) s) s t

/-! ### Pseudo-operations -/

/-- The step pseudo-operations move the selected drive's head one track, whatever its latch held before: on SD (R96,
R301), and on DD for the selected unit when its drive is not write-ready (R96, R300). -/
def Obligations.StepPseudoOpsMoveOneTrack : Prop :=
  (∀ s : State, OnSd s →
    (∃ t, runInstrs sdStepIn s = some t ∧ t.fault = none ∧ t.c.selectedDrive = s.c.selectedDrive ∧
      t.sel.currentTrack = min (s.sel.currentTrack + 1) 34) ∧
    (∃ t, runInstrs sdStepOut s = some t ∧ t.fault = none ∧ t.c.selectedDrive = s.c.selectedDrive ∧
      t.sel.currentTrack = s.sel.currentTrack - 1)) ∧
  (∀ (s : State) (side : BitVec 1) (den : Bool), OnDd s → 1 ≤ s.c.selectedDrive → s.c.selectedDrive ≤ 4 →
    s.sel.writeReady = false →
    (∃ t, runInstrs (ddStepIn s.c.selectedDrive side den) s = some t ∧ t.fault = none ∧
      t.c.selectedDrive = s.c.selectedDrive ∧ t.sel.currentTrack = min (s.sel.currentTrack + 1) 34) ∧
    (∃ t, runInstrs (ddStepOut s.c.selectedDrive side den) s = some t ∧ t.fault = none ∧
      t.c.selectedDrive = s.c.selectedDrive ∧ t.sel.currentTrack = s.sel.currentTrack - 1))

/-! ### One drive -/

/-- `CrcStep` is the left rotation of `crc XOR b` by one bit (R200, R201). -/
def Obligations.CrcStepIsARotation : Prop :=
  ∀ crc b : Byte, crcStep crc b = (crc ^^^ b).rotateLeft 1

/-- An update outside a transfer, one clause per state and probe (R182 to R186), and the escape of a transfer state
(R187). -/
def Obligations.UpdateFollowsTheStateTable : Prop :=
  ∀ (cfg : Config) (seed : Nat) (d : Drive) (r : Bool),
    (d.state = .sectorScan → r = false →
      d.update cfg r seed =
        { d with
          currentSector := (d.currentSector + 1) % 10, crc := 0, syncDetected := false, sectorHoleDetected := true,
          jitterArmed := false, state := .windowOpen, stateCounter := cfg.openCount }) ∧
    (d.state = .sectorScan → r = true →
      d.update cfg r seed =
        if d.jitterArmed = false then { d with jitterCount := seed % (cfg.jitterMax + 1), jitterArmed := true }
        else if 0 < d.jitterCount then { d with jitterCount := d.jitterCount - 1 }
        else d.update cfg false seed) ∧
    (d.state = .windowOpen →
      d.update cfg r seed =
        if d.stateCounter = 0 then
          { d with writeReady := false, inWindow := true, state := .windowClose, stateCounter := cfg.closeCount }
        else { d with writeReady := false, inWindow := true, stateCounter := d.stateCounter - 1 }) ∧
    (d.state = .windowClose →
      d.update cfg r seed =
        if d.stateCounter = 0 then
          { d with syncDetected := true, inWindow := false, state := .sectorScan, stateCounter := 0 }
        else { d with syncDetected := true, inWindow := false, stateCounter := d.stateCounter - 1 }) ∧
    (isScan d.state = false →
      d.update cfg r seed =
        if d.stateCounter = 0 then { d with state := .sectorScan, stateCounter := 0 }
        else { d with stateCounter := d.stateCounter - 1 })

/-- The randomized delay: from an unarmed drive in `SECTOR_SCAN`, B-status probes stay there for `k + 1` updates and the
`(k + 2)`-th advances, where `k` is the first probe's seed, in 0..jitterMax (R183). -/
def Obligations.JitterDelaysTheAdvance : Prop :=
  ∀ (cfg : Config) (d : Drive) (first k : Nat) (later : List Nat) (e : Drive), d.state = .sectorScan →
    d.jitterArmed = false → k = first % (cfg.jitterMax + 1) →
    e = (first :: later).foldl (fun d seed => d.update cfg true seed) d →
    k ≤ cfg.jitterMax ∧
      (later.length ≤ k → e.state = .sectorScan ∧ e.jitterArmed = true ∧ e.currentSector = d.currentSector) ∧
      (later.length = k + 1 →
        e.state = .windowOpen ∧ e.jitterArmed = false ∧ e.currentSector = (d.currentSector + 1) % 10)

/-- A sector takes `openCount + closeCount + 3` updates, none of them a probe: the drive is back in `SECTOR_SCAN` one
sector on, and not before (R190). -/
def Obligations.SectorPeriod : Prop :=
  ∀ (cfg : Config) (d : Drive), d.state = .sectorScan →
    (Drive.updates cfg (cfg.openCount + cfg.closeCount + 3) d).state = .sectorScan ∧
      (Drive.updates cfg (cfg.openCount + cfg.closeCount + 3) d).currentSector = (d.currentSector + 1) % 10 ∧
      (∀ n, 0 < n → n < cfg.openCount + cfg.closeCount + 3 → (Drive.updates cfg n d).state ≠ .sectorScan) ∧
      (∀ n, 0 < n → n ≤ cfg.openCount + 1 → (Drive.updates cfg n d).state = .windowOpen)

/-- A read sequence in bounds returns the sector's bytes in order and then the fold of `CrcStep` over them (R222). -/
def Obligations.ReadSequenceReturnsSectorAndCrc : Prop :=
  ∀ (env : DriveEnv) (d : Drive) (buf : List Byte), isScan d.state = true → d.diskBuffer = some buf →
    d.offset env.variant env.orderSide + d.sectorSize env.variant ≤ buf.length →
    ∃ d1 d2,
      Drive.readMany env (d.sectorSize env.variant) d =
        some ((buf.drop (d.offset env.variant env.orderSide)).take (d.sectorSize env.variant), d1) ∧
      d1.readByte env =
        .ok (crcOf ((buf.drop (d.offset env.variant env.orderSide)).take (d.sectorSize env.variant))) d2 [] ∧
      d2.state = .readEnd ∧ d2.diskBuffer = some buf

/-- With no disk a read sequence returns 256 zeros and then `0xFF`, on both variants (R207, R208). -/
def Obligations.ReadSequenceWithNoDisk : Prop :=
  ∀ (env : DriveEnv) (d : Drive), isScan d.state = true → d.diskBuffer = none →
    ∃ d1 d2, Drive.readMany env 256 d = some (List.replicate 256 0x00, d1) ∧
      d1.readByte env = .ok 0xFF d2 [] ∧ d2.state = .readEnd ∧ d2.xferOffset = d.offset env.variant env.orderSide

/-- Back-to-back data reads never escape: 257 `SD.NOP D` of a mounted image return the sector under the head after the
first update, byte for byte, and then its CRC (R222, R298). -/
def Obligations.SdSectorReadByDispatches : Prop :=
  ∀ (s : State) (b : Bool) (p : BitVec 2) (buf : List Byte) (off : Nat), OnSd s →
    isScan (updated b s).state = true → s.sel.diskBuffer = some buf →
    off = ((updated b s).currentTrack * 10 + (updated b s).currentSector) * 256 → off + 256 ≤ buf.length →
    ∃ t, repeatInstr (.sdNop false true b p) 257 s =
        some ((((buf.drop off).take 256) ++ [crcOf ((buf.drop off).take 256)]).map BusResult.byte, t) ∧
      t.fault = none ∧ t.sel.state = .readEnd ∧ t.sel.diskBuffer = some buf

/-- Round trip on SD: a sector written by `beginWrite`, the sync byte, 256 payload bytes and a CRC byte stands in the
image at the drive's offset with every other byte as before, and a later read at the same place returns it and its
CRC (R215, R222, R224). -/
def Obligations.SdWriteReadRoundTrip : Prop :=
  ∀ (env : DriveEnv) (d e : Drive) (buf payload : List Byte) (crcByte : Byte), env.variant = .sd →
    isScan d.state = true → d.diskBuffer = some buf → d.writeProtect = false → payload.length = 256 →
    d.offset .sd env.orderSide + 256 ≤ buf.length →
    ∃ d1 d2 buf', d.beginWrite env = .ok true d1 [] ∧
      Drive.writeMany env (env.cfg.syncByte :: payload ++ [crcByte]) d1 = some d2 ∧
      d2.state = .writeEnd ∧ d2.diskBuffer = some buf' ∧ buf'.length = buf.length ∧
      (∀ k, k < d.offset .sd env.orderSide ∨ d.offset .sd env.orderSide + 256 ≤ k → buf'[k]? = buf[k]?) ∧
      (isScan e.state = true → e.diskBuffer = some buf' → e.currentTrack = d.currentTrack →
        e.currentSector = d.currentSector →
        ∃ e1 e2, Drive.readMany env 256 e = some (payload, e1) ∧ e1.readByte env = .ok (crcOf payload) e2 [])

/-- The DD layout: a sector at any side, track and sector lies inside `2 * 35 * 10` sectors, and sectors at two different
places never share a byte (R204). -/
def Obligations.DdSectorsAreDisjointAndInside : Prop :=
  ∀ (side side' : BitVec 1) (d e : Drive), OnDisk d → OnDisk e → d.sectorSize .dd = e.sectorSize .dd →
    d.offset .dd side + d.sectorSize .dd ≤ 2 * 35 * 10 * d.sectorSize .dd ∧
      (side ≠ side' ∨ d.currentTrack ≠ e.currentTrack ∨ d.currentSector ≠ e.currentSector →
        d.offset .dd side + d.sectorSize .dd ≤ e.offset .dd side' ∨
          e.offset .dd side' + e.sectorSize .dd ≤ d.offset .dd side)

/-- The sector-flag bit of every status byte is set with no disk and equals the sector flag otherwise, for every view, so
for the view of every drive, whose fields are those of the drive and the controller (R32, R33). -/
def Obligations.StatusBytesCarryTheSectorFlag : Prop :=
  (∀ (cfg : Config) (v : DriveView),
    (statusASd cfg v).getLsbD cfg.sfBitASd.val = (!v.diskPresent || v.sectorFlag) ∧
      (statusBSd cfg v).getLsbD cfg.sfBitBSd.val = (!v.diskPresent || v.sectorFlag) ∧
      (statusADd cfg v).getLsbD cfg.sfBitADd.val = (!v.diskPresent || v.sectorFlag) ∧
      (statusBDd cfg v).getLsbD cfg.sfBitBDd.val = (!v.diskPresent || v.sectorFlag) ∧
      (statusCDd cfg v).getLsbD cfg.sfBitCDd.val = (!v.diskPresent || v.sectorFlag)) ∧
  (∀ (cfg : Config) (c : Controller) (d : Drive) (bit : Bool),
    (d.diskBuffer = none → bit = true) → (d.diskBuffer ≠ none → bit = d.sectorHoleDetected) →
    (statusASd cfg (viewOf c d)).getLsbD cfg.sfBitASd.val = bit ∧
      (statusBSd cfg (viewOf c d)).getLsbD cfg.sfBitBSd.val = bit ∧
      (statusADd cfg (viewOf c d)).getLsbD cfg.sfBitADd.val = bit ∧
      (statusBDd cfg (viewOf c d)).getLsbD cfg.sfBitBDd.val = bit ∧
      (statusCDd cfg (viewOf c d)).getLsbD cfg.sfBitCDd.val = bit) ∧
  ∀ (c : Controller) (d : Drive),
    viewOf c d =
      { diskPresent := decide (d.diskBuffer ≠ none)
        sectorFlag := d.sectorHoleDetected
        inWindow := d.inWindow
        syncDetected := d.syncDetected
        writeReady := d.writeReady
        writeProtect := d.writeProtect
        trackZero := decide (d.currentTrack = 0)
        sector := d.currentSector
        state := d.state
        imageDouble := if c.variant = .dd then d.imageDouble else false
        orderDouble := if c.variant = .dd then c.orderDouble else false
        orderSide := if c.variant = .dd then c.orderSide else 0#1
        motorOn := true }

/-! ### The host -/

/-- `mount` resets the one drive, head and sector at some place in range, and gives it the image, classified by length on
DD; the controller's own fields, RAM and every other drive stay (R220, R250, R292). -/
def Obligations.MountResetsOneDrive : Prop :=
  ∀ (s : State) (u : Nat) (image : DiskImage), 1 ≤ u → u ≤ numUnits s.c.variant → u < s.c.drives.length →
    ∃ t track sector, hostStep (.mount u image) s = .next t ∧ track ≤ 34 ∧ sector ≤ 9 ∧ Frame [u] s t ∧
      t.fault = s.fault ∧ t.c.selectedDrive = s.c.selectedDrive ∧ SameOrders s t ∧
      t.c.motorsRunning = s.c.motorsRunning ∧ t.c.lastMotorActivity = s.c.lastMotorActivity ∧
      t.c.drive u =
        { Drive.powerOn u (readOnlyOf s.readOnlyConfig u) track sector with
          diskBuffer := some image.bytes
          fileName := some image.name
          imageDouble :=
            decide (s.c.variant = .dd ∧ 100000 ≤ image.bytes.length ∧ image.bytes.length < 400000) }

/-- A commit persists pending data and clears the flag only on success; a persist never changes the image (R253,
R254). -/
def Obligations.CommitClearsPendingOnSuccess : Prop :=
  ∀ (s : State) (u : Nat), u ≤ numUnits s.c.variant → u < s.c.drives.length →
    ∃ t, hostStep (.commit u) s = .next t ∧ HostFrame u s t ∧
      (∀ buf, (s.c.drive u).commitPending = true → (s.c.drive u).diskBuffer = some buf →
        ∃ ok, t.calls = .persist u buf ok :: s.calls ∧
          t.c.drive u = { s.c.drive u with commitPending := !ok } ∧
          (ok = true → hostFile u t.calls = some buf)) ∧
      ((s.c.drive u).commitPending = false ∨ (s.c.drive u).diskBuffer = none → t = s)

/-- A failed load leaves a reset drive with no disk (R251), and an unmount only takes the disk, its name and its pending
flag (R252). Neither touches another drive, another field of the controller, RAM or the fault record. That `imageDouble`
stays after an unmount is the model's reading of R252 over R27 (assumption 18). -/
def Obligations.FailedLoadAndUnmountLeaveNoDisk : Prop :=
  ∀ (s : State) (u : Nat), 1 ≤ u → u ≤ numUnits s.c.variant → u < s.c.drives.length →
    (∃ t track sector, hostStep (.mountFailed u) s = .next t ∧ track ≤ 34 ∧ sector ≤ 9 ∧ HostFrame u s t ∧
      t.c.drive u = Drive.powerOn u (readOnlyOf s.readOnlyConfig u) track sector) ∧
    (∃ t, hostStep (.unmount u) s = .next t ∧ HostFrame u s t ∧
      t.c.drive u = { s.c.drive u with diskBuffer := none, fileName := none, commitPending := false })

/-- A reboot clears the fault and builds a new controller of the given variant: every field at its reset value, the ROM
the parameter's, every drive reset and holding the image given for its unit; RAM stays unless it is told to clear it, and
then every byte is a draw (R256, R291). -/
def Obligations.RebootRebuildsTheController : Prop :=
  ∀ (s : State) (v : Variant) (images : List (Option DiskImage)) (clearRam : Bool),
    ∃ t, hostStep (.reboot v images clearRam) s = .next t ∧ t.fault = none ∧ t.c.variant = v ∧
      t.c.selectedDrive = 0 ∧ t.c.firmwareROM = s.cfg.firmwareROM ∧ t.c.motorsRunning = false ∧
      t.c.lastMotorActivity = none ∧ t.c.orderDouble = false ∧ t.c.orderSide = 0#1 ∧
      t.c.drives.length = numUnits v + 1 ∧ t.pending = s.pending ∧ t.cfg = s.cfg ∧
      (clearRam = false → t.ram = s.ram) ∧ (clearRam = true → t.ram.cells = []) ∧
      ∀ u d, t.c.drives[u]? = some d →
        ∃ track sector, track ≤ 34 ∧ sector ≤ 9 ∧
          (u = 0 ∨ images.getD (u - 1) none = none →
            d = Drive.powerOn u (readOnlyOf s.readOnlyConfig u) track sector) ∧
          (∀ image, u ≠ 0 → images.getD (u - 1) none = some image →
            d =
              { Drive.powerOn u (readOnlyOf s.readOnlyConfig u) track sector with
                diskBuffer := some image.bytes
                fileName := some image.name
                imageDouble := decide (v = .dd ∧ 100000 ≤ image.bytes.length ∧ image.bytes.length < 400000) })

/-- The motor poll clears the motors after more than 5 seconds of inactivity and changes nothing else (R258). -/
def Obligations.MotorPollIsATimeout : Prop :=
  ∀ (s : State) (now last : Nat), s.c.lastMotorActivity = some last →
    ∃ t, hostStep (.motorPoll now) s = .next t ∧
      t = { s with
        c := { s.c with
          motorsRunning := s.c.motorsRunning && !decide (now > last + 5 * s.cfg.ticksPerSecond) } }

/-- The host's flags take effect (R255): a read-only flag at once on its unit's drive, the auto-commit flag on no
drive, so on no write sequence already begun. Neither touches the fault record or another field of the controller. -/
def Obligations.ConfigurationTakesEffect : Prop :=
  ∀ (s : State) (u : Nat) (on : Bool), u ≤ numUnits s.c.variant → u < s.c.drives.length →
    u < s.readOnlyConfig.length →
    (∃ t, hostStep (.setReadOnly u on) s = .next t ∧ t.c.drive u = { s.c.drive u with writeProtect := on } ∧
      readOnlyOf t.readOnlyConfig u = on ∧
      (∀ w, w ≠ u → t.c.drive w = s.c.drive w ∧ readOnlyOf t.readOnlyConfig w = readOnlyOf s.readOnlyConfig w) ∧
      t.autoCommitConfig = s.autoCommitConfig ∧ t.fault = s.fault ∧ t.c = { s.c with drives := t.c.drives } ∧
      t.cfg = s.cfg ∧ t.pending = s.pending ∧ ∀ a, t.ram.read a = s.ram.read a) ∧
    (∃ t, hostStep (.setAutoCommit on) s = .next t ∧ t.autoCommitConfig = on ∧ t.c = s.c ∧
      t.readOnlyConfig = s.readOnlyConfig ∧ t.fault = s.fault ∧ t.cfg = s.cfg ∧ t.pending = s.pending ∧
      ∀ a, t.ram.read a = s.ram.read a)
end

