-- ==== Sys2Proof/Laws/Drive.lean ====
section
/-! SUPPORT. What each operation on a drive can do, said once (43_drive_rotation.md, 44_drive_transfer.md,
45_drive_stepping.md). -/

namespace Sys2Proof.Machine

/-- Every transfer state has an escape count of at least 1 (R7). -/
theorem escapeCount_pos (cfg : Config) (st : DriveState) (h : isScan st = false) : 0 < escapeCount cfg st := by
  cases st <;> simp_all [isScan, escapeCount]

/-! ### The update: what it leaves alone -/

@[simp] theorem Drive.countdown_driveNumber (n : DriveState) (k : Nat) (d : Drive) : (d.countdown n k).driveNumber = d.driveNumber := by
  unfold Drive.countdown; split <;> rfl
@[simp] theorem Drive.countdown_diskBuffer (n : DriveState) (k : Nat) (d : Drive) : (d.countdown n k).diskBuffer = d.diskBuffer := by
  unfold Drive.countdown; split <;> rfl
@[simp] theorem Drive.countdown_fileName (n : DriveState) (k : Nat) (d : Drive) : (d.countdown n k).fileName = d.fileName := by
  unfold Drive.countdown; split <;> rfl
@[simp] theorem Drive.countdown_writeProtect (n : DriveState) (k : Nat) (d : Drive) : (d.countdown n k).writeProtect = d.writeProtect := by
  unfold Drive.countdown; split <;> rfl
@[simp] theorem Drive.countdown_autoCommit (n : DriveState) (k : Nat) (d : Drive) : (d.countdown n k).autoCommit = d.autoCommit := by
  unfold Drive.countdown; split <;> rfl
@[simp] theorem Drive.countdown_commitPending (n : DriveState) (k : Nat) (d : Drive) : (d.countdown n k).commitPending = d.commitPending := by
  unfold Drive.countdown; split <;> rfl
@[simp] theorem Drive.countdown_imageDouble (n : DriveState) (k : Nat) (d : Drive) : (d.countdown n k).imageDouble = d.imageDouble := by
  unfold Drive.countdown; split <;> rfl
@[simp] theorem Drive.countdown_currentTrack (n : DriveState) (k : Nat) (d : Drive) : (d.countdown n k).currentTrack = d.currentTrack := by
  unfold Drive.countdown; split <;> rfl
@[simp] theorem Drive.countdown_currentSector (n : DriveState) (k : Nat) (d : Drive) : (d.countdown n k).currentSector = d.currentSector := by
  unfold Drive.countdown; split <;> rfl
@[simp] theorem Drive.countdown_stepDirection (n : DriveState) (k : Nat) (d : Drive) : (d.countdown n k).stepDirection = d.stepDirection := by
  unfold Drive.countdown; split <;> rfl
@[simp] theorem Drive.countdown_stepFlipFlop (n : DriveState) (k : Nat) (d : Drive) : (d.countdown n k).stepFlipFlop = d.stepFlipFlop := by
  unfold Drive.countdown; split <;> rfl
@[simp] theorem Drive.countdown_sectorHoleDetected (n : DriveState) (k : Nat) (d : Drive) : (d.countdown n k).sectorHoleDetected = d.sectorHoleDetected := by
  unfold Drive.countdown; split <;> rfl
@[simp] theorem Drive.countdown_syncDetected (n : DriveState) (k : Nat) (d : Drive) : (d.countdown n k).syncDetected = d.syncDetected := by
  unfold Drive.countdown; split <;> rfl
@[simp] theorem Drive.countdown_inWindow (n : DriveState) (k : Nat) (d : Drive) : (d.countdown n k).inWindow = d.inWindow := by
  unfold Drive.countdown; split <;> rfl
@[simp] theorem Drive.countdown_writeReady (n : DriveState) (k : Nat) (d : Drive) : (d.countdown n k).writeReady = d.writeReady := by
  unfold Drive.countdown; split <;> rfl
@[simp] theorem Drive.countdown_crc (n : DriveState) (k : Nat) (d : Drive) : (d.countdown n k).crc = d.crc := by
  unfold Drive.countdown; split <;> rfl
@[simp] theorem Drive.countdown_jitterArmed (n : DriveState) (k : Nat) (d : Drive) : (d.countdown n k).jitterArmed = d.jitterArmed := by
  unfold Drive.countdown; split <;> rfl
@[simp] theorem Drive.countdown_jitterCount (n : DriveState) (k : Nat) (d : Drive) : (d.countdown n k).jitterCount = d.jitterCount := by
  unfold Drive.countdown; split <;> rfl
@[simp] theorem Drive.countdown_xferOffset (n : DriveState) (k : Nat) (d : Drive) : (d.countdown n k).xferOffset = d.xferOffset := by
  unfold Drive.countdown; split <;> rfl
@[simp] theorem Drive.countdown_xferRemaining (n : DriveState) (k : Nat) (d : Drive) : (d.countdown n k).xferRemaining = d.xferRemaining := by
  unfold Drive.countdown; split <;> rfl
@[simp] theorem Drive.countdown_leadinSync (n : DriveState) (k : Nat) (d : Drive) : (d.countdown n k).leadinSync = d.leadinSync := by
  unfold Drive.countdown; split <;> rfl

@[simp] theorem Drive.update_driveNumber (cfg : Config) (r : Bool) (n : Nat) (d : Drive) : (d.update cfg r n).driveNumber = d.driveNumber := by
  unfold Drive.update Drive.scanProbe Drive.stepWindowOpen Drive.stepWindowClose Drive.escape Drive.advance
  cases d.state <;> simp only <;> (repeat' split) <;> first | rfl | simp
@[simp] theorem Drive.update_diskBuffer (cfg : Config) (r : Bool) (n : Nat) (d : Drive) : (d.update cfg r n).diskBuffer = d.diskBuffer := by
  unfold Drive.update Drive.scanProbe Drive.stepWindowOpen Drive.stepWindowClose Drive.escape Drive.advance
  cases d.state <;> simp only <;> (repeat' split) <;> first | rfl | simp
@[simp] theorem Drive.update_fileName (cfg : Config) (r : Bool) (n : Nat) (d : Drive) : (d.update cfg r n).fileName = d.fileName := by
  unfold Drive.update Drive.scanProbe Drive.stepWindowOpen Drive.stepWindowClose Drive.escape Drive.advance
  cases d.state <;> simp only <;> (repeat' split) <;> first | rfl | simp
@[simp] theorem Drive.update_writeProtect (cfg : Config) (r : Bool) (n : Nat) (d : Drive) : (d.update cfg r n).writeProtect = d.writeProtect := by
  unfold Drive.update Drive.scanProbe Drive.stepWindowOpen Drive.stepWindowClose Drive.escape Drive.advance
  cases d.state <;> simp only <;> (repeat' split) <;> first | rfl | simp
@[simp] theorem Drive.update_autoCommit (cfg : Config) (r : Bool) (n : Nat) (d : Drive) : (d.update cfg r n).autoCommit = d.autoCommit := by
  unfold Drive.update Drive.scanProbe Drive.stepWindowOpen Drive.stepWindowClose Drive.escape Drive.advance
  cases d.state <;> simp only <;> (repeat' split) <;> first | rfl | simp
@[simp] theorem Drive.update_commitPending (cfg : Config) (r : Bool) (n : Nat) (d : Drive) : (d.update cfg r n).commitPending = d.commitPending := by
  unfold Drive.update Drive.scanProbe Drive.stepWindowOpen Drive.stepWindowClose Drive.escape Drive.advance
  cases d.state <;> simp only <;> (repeat' split) <;> first | rfl | simp
@[simp] theorem Drive.update_imageDouble (cfg : Config) (r : Bool) (n : Nat) (d : Drive) : (d.update cfg r n).imageDouble = d.imageDouble := by
  unfold Drive.update Drive.scanProbe Drive.stepWindowOpen Drive.stepWindowClose Drive.escape Drive.advance
  cases d.state <;> simp only <;> (repeat' split) <;> first | rfl | simp
@[simp] theorem Drive.update_currentTrack (cfg : Config) (r : Bool) (n : Nat) (d : Drive) : (d.update cfg r n).currentTrack = d.currentTrack := by
  unfold Drive.update Drive.scanProbe Drive.stepWindowOpen Drive.stepWindowClose Drive.escape Drive.advance
  cases d.state <;> simp only <;> (repeat' split) <;> first | rfl | simp
@[simp] theorem Drive.update_stepDirection (cfg : Config) (r : Bool) (n : Nat) (d : Drive) : (d.update cfg r n).stepDirection = d.stepDirection := by
  unfold Drive.update Drive.scanProbe Drive.stepWindowOpen Drive.stepWindowClose Drive.escape Drive.advance
  cases d.state <;> simp only <;> (repeat' split) <;> first | rfl | simp
@[simp] theorem Drive.update_stepFlipFlop (cfg : Config) (r : Bool) (n : Nat) (d : Drive) : (d.update cfg r n).stepFlipFlop = d.stepFlipFlop := by
  unfold Drive.update Drive.scanProbe Drive.stepWindowOpen Drive.stepWindowClose Drive.escape Drive.advance
  cases d.state <;> simp only <;> (repeat' split) <;> first | rfl | simp
@[simp] theorem Drive.update_xferOffset (cfg : Config) (r : Bool) (n : Nat) (d : Drive) : (d.update cfg r n).xferOffset = d.xferOffset := by
  unfold Drive.update Drive.scanProbe Drive.stepWindowOpen Drive.stepWindowClose Drive.escape Drive.advance
  cases d.state <;> simp only <;> (repeat' split) <;> first | rfl | simp
@[simp] theorem Drive.update_xferRemaining (cfg : Config) (r : Bool) (n : Nat) (d : Drive) : (d.update cfg r n).xferRemaining = d.xferRemaining := by
  unfold Drive.update Drive.scanProbe Drive.stepWindowOpen Drive.stepWindowClose Drive.escape Drive.advance
  cases d.state <;> simp only <;> (repeat' split) <;> first | rfl | simp
@[simp] theorem Drive.update_leadinSync (cfg : Config) (r : Bool) (n : Nat) (d : Drive) : (d.update cfg r n).leadinSync = d.leadinSync := by
  unfold Drive.update Drive.scanProbe Drive.stepWindowOpen Drive.stepWindowClose Drive.escape Drive.advance
  cases d.state <;> simp only <;> (repeat' split) <;> first | rfl | simp

/-! ### Stepping: what it leaves alone -/

@[simp] theorem Drive.setStepFlipFlop_driveNumber (b : Bool) (d : Drive) : (d.setStepFlipFlop b).driveNumber = d.driveNumber := by
  simp only [Drive.setStepFlipFlop, Drive.stepHead]; (repeat' split) <;> rfl
@[simp] theorem Drive.setStepFlipFlop_diskBuffer (b : Bool) (d : Drive) : (d.setStepFlipFlop b).diskBuffer = d.diskBuffer := by
  simp only [Drive.setStepFlipFlop, Drive.stepHead]; (repeat' split) <;> rfl
@[simp] theorem Drive.setStepFlipFlop_fileName (b : Bool) (d : Drive) : (d.setStepFlipFlop b).fileName = d.fileName := by
  simp only [Drive.setStepFlipFlop, Drive.stepHead]; (repeat' split) <;> rfl
@[simp] theorem Drive.setStepFlipFlop_writeProtect (b : Bool) (d : Drive) : (d.setStepFlipFlop b).writeProtect = d.writeProtect := by
  simp only [Drive.setStepFlipFlop, Drive.stepHead]; (repeat' split) <;> rfl
@[simp] theorem Drive.setStepFlipFlop_autoCommit (b : Bool) (d : Drive) : (d.setStepFlipFlop b).autoCommit = d.autoCommit := by
  simp only [Drive.setStepFlipFlop, Drive.stepHead]; (repeat' split) <;> rfl
@[simp] theorem Drive.setStepFlipFlop_commitPending (b : Bool) (d : Drive) : (d.setStepFlipFlop b).commitPending = d.commitPending := by
  simp only [Drive.setStepFlipFlop, Drive.stepHead]; (repeat' split) <;> rfl
@[simp] theorem Drive.setStepFlipFlop_imageDouble (b : Bool) (d : Drive) : (d.setStepFlipFlop b).imageDouble = d.imageDouble := by
  simp only [Drive.setStepFlipFlop, Drive.stepHead]; (repeat' split) <;> rfl
@[simp] theorem Drive.setStepFlipFlop_currentSector (b : Bool) (d : Drive) : (d.setStepFlipFlop b).currentSector = d.currentSector := by
  simp only [Drive.setStepFlipFlop, Drive.stepHead]; (repeat' split) <;> rfl
@[simp] theorem Drive.setStepFlipFlop_stepDirection (b : Bool) (d : Drive) : (d.setStepFlipFlop b).stepDirection = d.stepDirection := by
  simp only [Drive.setStepFlipFlop, Drive.stepHead]; (repeat' split) <;> rfl
@[simp] theorem Drive.setStepFlipFlop_sectorHoleDetected (b : Bool) (d : Drive) : (d.setStepFlipFlop b).sectorHoleDetected = d.sectorHoleDetected := by
  simp only [Drive.setStepFlipFlop, Drive.stepHead]; (repeat' split) <;> rfl
@[simp] theorem Drive.setStepFlipFlop_syncDetected (b : Bool) (d : Drive) : (d.setStepFlipFlop b).syncDetected = d.syncDetected := by
  simp only [Drive.setStepFlipFlop, Drive.stepHead]; (repeat' split) <;> rfl
@[simp] theorem Drive.setStepFlipFlop_inWindow (b : Bool) (d : Drive) : (d.setStepFlipFlop b).inWindow = d.inWindow := by
  simp only [Drive.setStepFlipFlop, Drive.stepHead]; (repeat' split) <;> rfl
@[simp] theorem Drive.setStepFlipFlop_writeReady (b : Bool) (d : Drive) : (d.setStepFlipFlop b).writeReady = d.writeReady := by
  simp only [Drive.setStepFlipFlop, Drive.stepHead]; (repeat' split) <;> rfl
@[simp] theorem Drive.setStepFlipFlop_state (b : Bool) (d : Drive) : (d.setStepFlipFlop b).state = d.state := by
  simp only [Drive.setStepFlipFlop, Drive.stepHead]; (repeat' split) <;> rfl
@[simp] theorem Drive.setStepFlipFlop_stateCounter (b : Bool) (d : Drive) : (d.setStepFlipFlop b).stateCounter = d.stateCounter := by
  simp only [Drive.setStepFlipFlop, Drive.stepHead]; (repeat' split) <;> rfl
@[simp] theorem Drive.setStepFlipFlop_crc (b : Bool) (d : Drive) : (d.setStepFlipFlop b).crc = d.crc := by
  simp only [Drive.setStepFlipFlop, Drive.stepHead]; (repeat' split) <;> rfl
@[simp] theorem Drive.setStepFlipFlop_jitterArmed (b : Bool) (d : Drive) : (d.setStepFlipFlop b).jitterArmed = d.jitterArmed := by
  simp only [Drive.setStepFlipFlop, Drive.stepHead]; (repeat' split) <;> rfl
@[simp] theorem Drive.setStepFlipFlop_jitterCount (b : Bool) (d : Drive) : (d.setStepFlipFlop b).jitterCount = d.jitterCount := by
  simp only [Drive.setStepFlipFlop, Drive.stepHead]; (repeat' split) <;> rfl
@[simp] theorem Drive.setStepFlipFlop_xferOffset (b : Bool) (d : Drive) : (d.setStepFlipFlop b).xferOffset = d.xferOffset := by
  simp only [Drive.setStepFlipFlop, Drive.stepHead]; (repeat' split) <;> rfl
@[simp] theorem Drive.setStepFlipFlop_xferRemaining (b : Bool) (d : Drive) : (d.setStepFlipFlop b).xferRemaining = d.xferRemaining := by
  simp only [Drive.setStepFlipFlop, Drive.stepHead]; (repeat' split) <;> rfl
@[simp] theorem Drive.setStepFlipFlop_leadinSync (b : Bool) (d : Drive) : (d.setStepFlipFlop b).leadinSync = d.leadinSync := by
  simp only [Drive.setStepFlipFlop, Drive.stepHead]; (repeat' split) <;> rfl

/-- The whole of `setStepFlipFlop` (R240, R241). -/
theorem Drive.setStepFlipFlop_eq (b : Bool) (d : Drive) :
    d.setStepFlipFlop b =
      { d with
        stepFlipFlop := b
        currentTrack :=
          if d.stepFlipFlop = true ∧ b = false then
            (if d.stepDirection = .inward then min (d.currentTrack + 1) 34 else d.currentTrack - 1)
          else d.currentTrack } := by
  cases hf : d.stepFlipFlop <;> cases b <;> cases hd : d.stepDirection <;>
    simp [Drive.setStepFlipFlop, Drive.stepHead, hf, hd]

/-! ### Transfers -/

/-- A payload read in bounds, or with no disk, answers (R207). -/
theorem Drive.readPayload_some (cfg : Config) (d : Drive) (buf : List Byte) (h : d.diskBuffer = some buf)
    (hb : d.xferOffset < buf.length) :
    d.readPayload cfg =
      .ok buf[d.xferOffset] (({ d with xferOffset := d.xferOffset + 1 } : Drive).streamed cfg buf[d.xferOffset]) [] := by
  simp [Drive.readPayload, h, hb]

theorem Drive.readPayload_none (cfg : Config) (d : Drive) (h : d.diskBuffer = none) :
    d.readPayload cfg = .ok 0 (d.streamed cfg 0) [] := by
  simp [Drive.readPayload, h]

/-- An accepted `readByte` answers a byte and calls nobody (R205). -/
theorem Drive.readByte_of_accepts (env : DriveEnv) (d : Drive) (h : readAccepts env d = true) :
    ∃ b d', d.readByte env = .ok b d' [] := by
  unfold readAccepts at h
  unfold Drive.readByte
  cases hs : d.state <;> simp only [hs] at h ⊢
  case readCrc => exact ⟨_, _, rfl⟩
  case readData =>
    cases hb : d.diskBuffer with
    | none => exact ⟨_, _, Drive.readPayload_none _ _ hb⟩
    | some buf =>
      simp only [hb, decide_eq_true_eq] at h
      exact ⟨_, _, Drive.readPayload_some _ _ _ hb h⟩
  case sectorScan | windowOpen | windowClose =>
    cases hb : d.diskBuffer with
    | none => exact ⟨_, _, Drive.readPayload_none _ _ hb⟩
    | some buf =>
      simp only [hb, decide_eq_true_eq] at h
      exact ⟨_, _, Drive.readPayload_some _ (d.startRead env) buf hb h⟩
  all_goals cases h

/-- A drive operation leaves the drive's number, name, density and protection, its head and its sector, its latches and
its sector, sync and window flags; reads and writes of bytes alone move the rest (R207, R211, R215, R216). -/
structure Drive.TransferFrame (d d' : Drive) : Prop where
  driveNumber        : d'.driveNumber = d.driveNumber
  fileName           : d'.fileName = d.fileName
  writeProtect       : d'.writeProtect = d.writeProtect
  imageDouble        : d'.imageDouble = d.imageDouble
  currentTrack       : d'.currentTrack = d.currentTrack
  currentSector      : d'.currentSector = d.currentSector
  stepDirection      : d'.stepDirection = d.stepDirection
  stepFlipFlop       : d'.stepFlipFlop = d.stepFlipFlop
  sectorHoleDetected : d'.sectorHoleDetected = d.sectorHoleDetected
  syncDetected       : d'.syncDetected = d.syncDetected
  inWindow           : d'.inWindow = d.inWindow
  jitterArmed        : d'.jitterArmed = d.jitterArmed
  jitterCount        : d'.jitterCount = d.jitterCount
  length             : d'.diskBuffer.map List.length = d.diskBuffer.map List.length

/-- How a drive operation ends, whatever its answer: the drive it leaves. -/
def DriveDone.drive : DriveDone α → Drive
  | .ok _ d _ => d
  | .fault _ d => d

theorem Drive.readByte_frame (env : DriveEnv) (d : Drive) :
    d.TransferFrame (d.readByte env).drive ∧ (d.readByte env).drive.diskBuffer = d.diskBuffer := by
  unfold Drive.readByte Drive.readPayload Drive.readCrcByte
  constructor
  · cases d.state <;> simp only <;> (repeat' split) <;> constructor <;> rfl
  · cases d.state <;> simp only <;> (repeat' split) <;> rfl

theorem Drive.beginWrite_frame (env : DriveEnv) (d : Drive) :
    d.TransferFrame (d.beginWrite env).drive ∧ (d.beginWrite env).drive.diskBuffer = d.diskBuffer := by
  unfold Drive.beginWrite
  constructor
  · split
    · constructor <;> rfl
    · cases d.state <;> constructor <;> rfl
  · split
    · rfl
    · cases d.state <;> rfl

theorem Drive.writeByte_frame (env : DriveEnv) (v : Byte) (d : Drive) :
    d.TransferFrame (d.writeByte env v).drive ∧
      (d.writeProtect = true → (d.writeByte env v).drive.diskBuffer = d.diskBuffer) := by
  unfold Drive.writeByte Drive.writePayload Drive.stored Drive.writeCrcByte Drive.leadin
  split
  · exact ⟨by constructor <;> rfl, fun _ => rfl⟩
  · cases hs : d.state <;> simp only
    case writeData =>
      cases hb : d.diskBuffer with
      | none => exact ⟨by constructor <;> rfl, fun _ => hb⟩
      | some buf =>
        simp only
        split <;> rename_i hx
        · exact ⟨by constructor <;> rfl, fun _ => by simp [DriveDone.drive, hb]⟩
        · split at hx
          · cases hx
            exact ⟨by constructor <;> rfl,
              fun _ => hb⟩
          · split at hx
            · cases hx
              refine ⟨by constructor <;> first | rfl | simp [hb, DriveDone.drive, Drive.consumed, Drive.reloaded], ?_⟩
              intro hp
              contradiction
            · cases hx
    all_goals refine ⟨?_, fun _ => ?_⟩
    all_goals (repeat' split) <;> first | rfl | (constructor <;> rfl)

end Sys2Proof.Machine
end

