-- ==== Sys2Proof/Laws/Memory.lean ====
section
/-! SUPPORT. RAM: a read after a write, and the canonical form kept by every memory operation. -/

namespace Sys2Proof.Machine

theorem lookupCell_insertCell_same (k : Nat) (v : Byte) (l : List Host.Cell) :
    lookupCell k (insertCell k v l) = some v := by
  induction l with
  | nil => simp [insertCell, lookupCell]
  | cons c rest ih =>
    unfold insertCell
    split
    · simp [lookupCell]
    · split
      · simp [lookupCell]
      · rename_i h
        simp [lookupCell, ih, Ne.symm h]

theorem lookupCell_insertCell_other (k j : Nat) (v : Byte) (l : List Host.Cell) (h : j ≠ k) :
    lookupCell j (insertCell k v l) = lookupCell j l := by
  induction l with
  | nil => simp [insertCell, lookupCell, Ne.symm h]
  | cons c rest ih =>
    unfold insertCell
    split
    · simp [lookupCell, Ne.symm h]
    · split
      · rename_i hk
        subst hk
        simp [lookupCell, Ne.symm h]
      · simp [lookupCell, ih]

theorem lookupCell_eraseCell_other (k j : Nat) (l : List Host.Cell) (h : j ≠ k) :
    lookupCell j (eraseCell k l) = lookupCell j l := by
  induction l with
  | nil => rfl
  | cons c rest ih =>
    unfold eraseCell
    split
    · rename_i hk
      simp [lookupCell, hk, Ne.symm h]
    · simp [lookupCell, ih]

theorem lookupCell_none_of_rising (k lo : Nat) (l : List Host.Cell) (h : risingFrom lo l = true) (hk : k < lo) :
    lookupCell k l = none := by
  induction l generalizing lo with
  | nil => rfl
  | cons c rest ih =>
    simp only [risingFrom, Bool.and_eq_true, decide_eq_true_eq] at h
    simp only [lookupCell, show ¬ c.1 = k by omega, if_false]
    exact ih (c.1 + 1) h.2 (by omega)

theorem lookupCell_eraseCell_same (k lo : Nat) (l : List Host.Cell) (h : risingFrom lo l = true) :
    lookupCell k (eraseCell k l) = none := by
  induction l generalizing lo with
  | nil => rfl
  | cons c rest ih =>
    simp only [risingFrom, Bool.and_eq_true, decide_eq_true_eq] at h
    unfold eraseCell
    split
    · exact lookupCell_none_of_rising k (c.1 + 1) rest h.2 (by omega)
    · rename_i hc
      simp [lookupCell, hc, ih _ h.2]

theorem risingFrom_mono (lo lo' : Nat) (l : List Host.Cell) (h : risingFrom lo l = true) (hl : lo' ≤ lo) :
    risingFrom lo' l = true := by
  cases l with
  | nil => rfl
  | cons c rest =>
    simp only [risingFrom, Bool.and_eq_true, decide_eq_true_eq] at h ⊢
    exact ⟨by omega, h.2⟩

theorem risingFrom_insertCell (k lo : Nat) (v : Byte) (l : List Host.Cell) (h : risingFrom lo l = true)
    (hk : lo ≤ k) : risingFrom lo (insertCell k v l) = true := by
  induction l generalizing lo with
  | nil => simp [insertCell, risingFrom, hk]
  | cons c rest ih =>
    simp only [risingFrom, Bool.and_eq_true, decide_eq_true_eq] at h
    unfold insertCell
    split
    · rename_i hlt
      simp only [risingFrom, Bool.and_eq_true, decide_eq_true_eq]
      exact ⟨hk, by omega, h.2⟩
    · split
      · rename_i he
        subst he
        simp only [risingFrom, Bool.and_eq_true, decide_eq_true_eq]
        exact ⟨hk, h.2⟩
      · simp only [risingFrom, Bool.and_eq_true, decide_eq_true_eq]
        exact ⟨h.1, ih _ h.2 (by omega)⟩

theorem risingFrom_eraseCell (k lo : Nat) (l : List Host.Cell) (h : risingFrom lo l = true) :
    risingFrom lo (eraseCell k l) = true := by
  induction l generalizing lo with
  | nil => rfl
  | cons c rest ih =>
    simp only [risingFrom, Bool.and_eq_true, decide_eq_true_eq] at h
    unfold eraseCell
    split
    · exact risingFrom_mono _ _ rest h.2 (by omega)
    · simp only [risingFrom, Bool.and_eq_true, decide_eq_true_eq]
      exact ⟨h.1, ih _ h.2⟩

theorem mem_insertCell (k : Nat) (v : Byte) (l : List Host.Cell) (c : Host.Cell) (h : c ∈ insertCell k v l) :
    c = (k, v) ∨ c ∈ l := by
  induction l with
  | nil => simpa [insertCell] using h
  | cons e rest ih =>
    unfold insertCell at h
    split at h
    · simpa using h
    · split at h
      · rcases List.mem_cons.1 h with h | h
        · exact .inl h
        · exact .inr (List.mem_cons_of_mem _ h)
      · rcases List.mem_cons.1 h with h | h
        · exact .inr (h ▸ List.mem_cons_self)
        · exact (ih h).imp id (List.mem_cons_of_mem _)

theorem mem_eraseCell (k : Nat) (l : List Host.Cell) (c : Host.Cell) (h : c ∈ eraseCell k l) : c ∈ l := by
  induction l with
  | nil => exact h
  | cons e rest ih =>
    unfold eraseCell at h
    split at h
    · exact List.mem_cons_of_mem _ h
    · rcases List.mem_cons.1 h with h | h
      · exact h ▸ List.mem_cons_self
      · exact List.mem_cons_of_mem _ (ih h)

theorem Memory.wf_iff (m : Memory) :
    m.wf = true ↔ risingFrom 0 m.cells = true ∧ ∀ c ∈ m.cells, c.1 < 65536 ∧ c.2 ≠ m.background c.1 := by
  simp [Memory.wf]

/-- A read after a write to the same address gives the value written. -/
theorem Memory.read_write_same (m : Memory) (a : Addr) (v : Byte) (h : m.wf = true) : (m.write a v).read a = v := by
  have hr := ((m.wf_iff).1 h).1
  by_cases hv : v = m.background a.toNat
  · simp only [Memory.read, Memory.write, if_pos hv, lookupCell_eraseCell_same a.toNat 0 m.cells hr]
    exact hv.symm
  · simp [Memory.read, Memory.write, if_neg hv, lookupCell_insertCell_same]

/-- A write leaves every other address alone. -/
theorem Memory.read_write_other (m : Memory) (a b : Addr) (v : Byte) (h : b ≠ a) :
    (m.write a v).read b = m.read b := by
  have hk : b.toNat ≠ a.toNat := fun he => h (BitVec.eq_of_toNat_eq he)
  by_cases hv : v = m.background a.toNat
  · simp only [Memory.read, Memory.write, if_pos hv, lookupCell_eraseCell_other _ _ _ hk]
    rfl
  · simp only [Memory.read, Memory.write, if_neg hv, lookupCell_insertCell_other _ _ _ _ hk]
    rfl

/-- A write keeps the canonical form. -/
theorem Memory.write_wf (m : Memory) (a : Addr) (v : Byte) (h : m.wf = true) : (m.write a v).wf = true := by
  obtain ⟨hr, hc⟩ := (m.wf_iff).1 h
  refine (Memory.wf_iff _).2 ?_
  by_cases hv : v = m.background a.toNat
  · simp only [Memory.write, if_pos hv]
    exact ⟨risingFrom_eraseCell _ _ _ hr, fun c hm => hc c (mem_eraseCell _ _ _ hm)⟩
  · simp only [Memory.write, if_neg hv]
    refine ⟨risingFrom_insertCell _ _ _ _ hr (Nat.zero_le _), fun c hm => ?_⟩
    rcases mem_insertCell _ _ _ _ hm with rfl | hm
    · exact ⟨a.isLt, hv⟩
    · exact hc c hm

/-- Cleared memory is in the canonical form. -/
theorem Memory.empty_wf (seed : Nat) : (Memory.mk seed []).wf = true := rfl

end Sys2Proof.Machine
end

