-- ==== Sys2Proof/Laws/State.lean ====
section
/-! SUPPORT. One lemma per field per update of State: later proofs rewrite with these and unfold no record update. -/

namespace Sys2Proof.Machine

@[simp] theorem State.tick_cfg (s : State) : (s.tick).cfg = s.cfg := rfl
@[simp] theorem State.tick_ram (s : State) : (s.tick).ram = s.ram := rfl
@[simp] theorem State.tick_c (s : State) : (s.tick).c = s.c := rfl
@[simp] theorem State.tick_fault (s : State) : (s.tick).fault = s.fault := rfl
@[simp] theorem State.tick_autoCommitConfig (s : State) : (s.tick).autoCommitConfig = s.autoCommitConfig := rfl
@[simp] theorem State.tick_readOnlyConfig (s : State) : (s.tick).readOnlyConfig = s.readOnlyConfig := rfl
@[simp] theorem State.tick_draws (s : State) : (s.tick).draws = s.draws + 1 := rfl
@[simp] theorem State.tick_pending (s : State) : (s.tick).pending = s.pending := rfl
@[simp] theorem State.tick_result (s : State) : (s.tick).result = s.result := rfl
@[simp] theorem State.tick_calls (s : State) : (s.tick).calls = s.calls := rfl

@[simp] theorem State.setDrive_cfg (s : State) (u : Nat) (d : Drive) : (s.setDrive u d).cfg = s.cfg := rfl
@[simp] theorem State.setDrive_ram (s : State) (u : Nat) (d : Drive) : (s.setDrive u d).ram = s.ram := rfl
@[simp] theorem State.setDrive_fault (s : State) (u : Nat) (d : Drive) : (s.setDrive u d).fault = s.fault := rfl
@[simp] theorem State.setDrive_autoCommitConfig (s : State) (u : Nat) (d : Drive) : (s.setDrive u d).autoCommitConfig = s.autoCommitConfig := rfl
@[simp] theorem State.setDrive_readOnlyConfig (s : State) (u : Nat) (d : Drive) : (s.setDrive u d).readOnlyConfig = s.readOnlyConfig := rfl
@[simp] theorem State.setDrive_draws (s : State) (u : Nat) (d : Drive) : (s.setDrive u d).draws = s.draws := rfl
@[simp] theorem State.setDrive_pending (s : State) (u : Nat) (d : Drive) : (s.setDrive u d).pending = s.pending := rfl
@[simp] theorem State.setDrive_result (s : State) (u : Nat) (d : Drive) : (s.setDrive u d).result = s.result := rfl
@[simp] theorem State.setDrive_calls (s : State) (u : Nat) (d : Drive) : (s.setDrive u d).calls = s.calls := rfl
@[simp] theorem State.setDrive_c_variant (s : State) (u : Nat) (d : Drive) : (s.setDrive u d).c.variant = s.c.variant := rfl
@[simp] theorem State.setDrive_c_selectedDrive (s : State) (u : Nat) (d : Drive) : (s.setDrive u d).c.selectedDrive = s.c.selectedDrive := rfl
@[simp] theorem State.setDrive_c_firmwareROM (s : State) (u : Nat) (d : Drive) : (s.setDrive u d).c.firmwareROM = s.c.firmwareROM := rfl
@[simp] theorem State.setDrive_c_motorsRunning (s : State) (u : Nat) (d : Drive) : (s.setDrive u d).c.motorsRunning = s.c.motorsRunning := rfl
@[simp] theorem State.setDrive_c_lastMotorActivity (s : State) (u : Nat) (d : Drive) : (s.setDrive u d).c.lastMotorActivity = s.c.lastMotorActivity := rfl
@[simp] theorem State.setDrive_c_drives (s : State) (u : Nat) (d : Drive) : (s.setDrive u d).c.drives = s.c.drives.set u d := rfl
@[simp] theorem State.setDrive_c_orderDouble (s : State) (u : Nat) (d : Drive) : (s.setDrive u d).c.orderDouble = s.c.orderDouble := rfl
@[simp] theorem State.setDrive_c_orderSide (s : State) (u : Nat) (d : Drive) : (s.setDrive u d).c.orderSide = s.c.orderSide := rfl

@[simp] theorem State.setSel_cfg (s : State) (d : Drive) : (s.setSel d).cfg = s.cfg := rfl
@[simp] theorem State.setSel_ram (s : State) (d : Drive) : (s.setSel d).ram = s.ram := rfl
@[simp] theorem State.setSel_fault (s : State) (d : Drive) : (s.setSel d).fault = s.fault := rfl
@[simp] theorem State.setSel_autoCommitConfig (s : State) (d : Drive) : (s.setSel d).autoCommitConfig = s.autoCommitConfig := rfl
@[simp] theorem State.setSel_readOnlyConfig (s : State) (d : Drive) : (s.setSel d).readOnlyConfig = s.readOnlyConfig := rfl
@[simp] theorem State.setSel_draws (s : State) (d : Drive) : (s.setSel d).draws = s.draws := rfl
@[simp] theorem State.setSel_pending (s : State) (d : Drive) : (s.setSel d).pending = s.pending := rfl
@[simp] theorem State.setSel_result (s : State) (d : Drive) : (s.setSel d).result = s.result := rfl
@[simp] theorem State.setSel_calls (s : State) (d : Drive) : (s.setSel d).calls = s.calls := rfl
@[simp] theorem State.setSel_c_variant (s : State) (d : Drive) : (s.setSel d).c.variant = s.c.variant := rfl
@[simp] theorem State.setSel_c_selectedDrive (s : State) (d : Drive) : (s.setSel d).c.selectedDrive = s.c.selectedDrive := rfl
@[simp] theorem State.setSel_c_firmwareROM (s : State) (d : Drive) : (s.setSel d).c.firmwareROM = s.c.firmwareROM := rfl
@[simp] theorem State.setSel_c_motorsRunning (s : State) (d : Drive) : (s.setSel d).c.motorsRunning = s.c.motorsRunning := rfl
@[simp] theorem State.setSel_c_lastMotorActivity (s : State) (d : Drive) : (s.setSel d).c.lastMotorActivity = s.c.lastMotorActivity := rfl
@[simp] theorem State.setSel_c_drives (s : State) (d : Drive) : (s.setSel d).c.drives = s.c.drives.set s.c.selectedDrive d := rfl
@[simp] theorem State.setSel_c_orderDouble (s : State) (d : Drive) : (s.setSel d).c.orderDouble = s.c.orderDouble := rfl
@[simp] theorem State.setSel_c_orderSide (s : State) (d : Drive) : (s.setSel d).c.orderSide = s.c.orderSide := rfl

@[simp] theorem State.select_cfg (s : State) (u : Nat) : (s.select u).cfg = s.cfg := rfl
@[simp] theorem State.select_ram (s : State) (u : Nat) : (s.select u).ram = s.ram := rfl
@[simp] theorem State.select_fault (s : State) (u : Nat) : (s.select u).fault = s.fault := rfl
@[simp] theorem State.select_autoCommitConfig (s : State) (u : Nat) : (s.select u).autoCommitConfig = s.autoCommitConfig := rfl
@[simp] theorem State.select_readOnlyConfig (s : State) (u : Nat) : (s.select u).readOnlyConfig = s.readOnlyConfig := rfl
@[simp] theorem State.select_draws (s : State) (u : Nat) : (s.select u).draws = s.draws := rfl
@[simp] theorem State.select_pending (s : State) (u : Nat) : (s.select u).pending = s.pending := rfl
@[simp] theorem State.select_result (s : State) (u : Nat) : (s.select u).result = s.result := rfl
@[simp] theorem State.select_calls (s : State) (u : Nat) : (s.select u).calls = s.calls := rfl
@[simp] theorem State.select_c_variant (s : State) (u : Nat) : (s.select u).c.variant = s.c.variant := rfl
@[simp] theorem State.select_c_selectedDrive (s : State) (u : Nat) : (s.select u).c.selectedDrive = u := rfl
@[simp] theorem State.select_c_firmwareROM (s : State) (u : Nat) : (s.select u).c.firmwareROM = s.c.firmwareROM := rfl
@[simp] theorem State.select_c_motorsRunning (s : State) (u : Nat) : (s.select u).c.motorsRunning = s.c.motorsRunning := rfl
@[simp] theorem State.select_c_lastMotorActivity (s : State) (u : Nat) : (s.select u).c.lastMotorActivity = s.c.lastMotorActivity := rfl
@[simp] theorem State.select_c_drives (s : State) (u : Nat) : (s.select u).c.drives = s.c.drives := rfl
@[simp] theorem State.select_c_orderDouble (s : State) (u : Nat) : (s.select u).c.orderDouble = s.c.orderDouble := rfl
@[simp] theorem State.select_c_orderSide (s : State) (u : Nat) : (s.select u).c.orderSide = s.c.orderSide := rfl

@[simp] theorem State.touchMotors_cfg (s : State) : (s.touchMotors).cfg = s.cfg := rfl
@[simp] theorem State.touchMotors_ram (s : State) : (s.touchMotors).ram = s.ram := rfl
@[simp] theorem State.touchMotors_fault (s : State) : (s.touchMotors).fault = s.fault := rfl
@[simp] theorem State.touchMotors_autoCommitConfig (s : State) : (s.touchMotors).autoCommitConfig = s.autoCommitConfig := rfl
@[simp] theorem State.touchMotors_readOnlyConfig (s : State) : (s.touchMotors).readOnlyConfig = s.readOnlyConfig := rfl
@[simp] theorem State.touchMotors_draws (s : State) : (s.touchMotors).draws = s.draws := rfl
@[simp] theorem State.touchMotors_pending (s : State) : (s.touchMotors).pending = s.pending := rfl
@[simp] theorem State.touchMotors_result (s : State) : (s.touchMotors).result = s.result := rfl
@[simp] theorem State.touchMotors_calls (s : State) : (s.touchMotors).calls = s.calls := rfl
@[simp] theorem State.touchMotors_c_variant (s : State) : (s.touchMotors).c.variant = s.c.variant := rfl
@[simp] theorem State.touchMotors_c_selectedDrive (s : State) : (s.touchMotors).c.selectedDrive = s.c.selectedDrive := rfl
@[simp] theorem State.touchMotors_c_firmwareROM (s : State) : (s.touchMotors).c.firmwareROM = s.c.firmwareROM := rfl
@[simp] theorem State.touchMotors_c_motorsRunning (s : State) : (s.touchMotors).c.motorsRunning = true := rfl
@[simp] theorem State.touchMotors_c_lastMotorActivity (s : State) : (s.touchMotors).c.lastMotorActivity = some (Config.hostTime s.draws) := rfl
@[simp] theorem State.touchMotors_c_drives (s : State) : (s.touchMotors).c.drives = s.c.drives := rfl
@[simp] theorem State.touchMotors_c_orderDouble (s : State) : (s.touchMotors).c.orderDouble = s.c.orderDouble := rfl
@[simp] theorem State.touchMotors_c_orderSide (s : State) : (s.touchMotors).c.orderSide = s.c.orderSide := rfl

@[simp] theorem State.beginDispatch_cfg (s : State) : (s.beginDispatch).cfg = s.cfg := rfl
@[simp] theorem State.beginDispatch_ram (s : State) : (s.beginDispatch).ram = s.ram := rfl
@[simp] theorem State.beginDispatch_fault (s : State) : (s.beginDispatch).fault = s.fault := rfl
@[simp] theorem State.beginDispatch_autoCommitConfig (s : State) : (s.beginDispatch).autoCommitConfig = s.autoCommitConfig := rfl
@[simp] theorem State.beginDispatch_readOnlyConfig (s : State) : (s.beginDispatch).readOnlyConfig = s.readOnlyConfig := rfl
@[simp] theorem State.beginDispatch_draws (s : State) : (s.beginDispatch).draws = s.draws + 1 := rfl
@[simp] theorem State.beginDispatch_pending (s : State) : (s.beginDispatch).pending = s.pending := rfl
@[simp] theorem State.beginDispatch_result (s : State) : (s.beginDispatch).result = s.result := rfl
@[simp] theorem State.beginDispatch_calls (s : State) : (s.beginDispatch).calls = s.calls := rfl
@[simp] theorem State.beginDispatch_c_variant (s : State) : (s.beginDispatch).c.variant = s.c.variant := rfl
@[simp] theorem State.beginDispatch_c_selectedDrive (s : State) : (s.beginDispatch).c.selectedDrive = s.c.selectedDrive := rfl
@[simp] theorem State.beginDispatch_c_firmwareROM (s : State) : (s.beginDispatch).c.firmwareROM = s.c.firmwareROM := rfl
@[simp] theorem State.beginDispatch_c_motorsRunning (s : State) : (s.beginDispatch).c.motorsRunning = true := rfl
@[simp] theorem State.beginDispatch_c_lastMotorActivity (s : State) : (s.beginDispatch).c.lastMotorActivity = some (Config.hostTime (s.draws + 1)) := rfl
@[simp] theorem State.beginDispatch_c_drives (s : State) : (s.beginDispatch).c.drives = s.c.drives := rfl
@[simp] theorem State.beginDispatch_c_orderDouble (s : State) : (s.beginDispatch).c.orderDouble = s.c.orderDouble := rfl
@[simp] theorem State.beginDispatch_c_orderSide (s : State) : (s.beginDispatch).c.orderSide = s.c.orderSide := rfl

@[simp] theorem State.setOrder_cfg (s : State) (den : Bool) (side : BitVec 1) : (s.setOrder den side).cfg = s.cfg := rfl
@[simp] theorem State.setOrder_ram (s : State) (den : Bool) (side : BitVec 1) : (s.setOrder den side).ram = s.ram := rfl
@[simp] theorem State.setOrder_fault (s : State) (den : Bool) (side : BitVec 1) : (s.setOrder den side).fault = s.fault := rfl
@[simp] theorem State.setOrder_autoCommitConfig (s : State) (den : Bool) (side : BitVec 1) : (s.setOrder den side).autoCommitConfig = s.autoCommitConfig := rfl
@[simp] theorem State.setOrder_readOnlyConfig (s : State) (den : Bool) (side : BitVec 1) : (s.setOrder den side).readOnlyConfig = s.readOnlyConfig := rfl
@[simp] theorem State.setOrder_draws (s : State) (den : Bool) (side : BitVec 1) : (s.setOrder den side).draws = s.draws := rfl
@[simp] theorem State.setOrder_pending (s : State) (den : Bool) (side : BitVec 1) : (s.setOrder den side).pending = s.pending := rfl
@[simp] theorem State.setOrder_result (s : State) (den : Bool) (side : BitVec 1) : (s.setOrder den side).result = s.result := rfl
@[simp] theorem State.setOrder_calls (s : State) (den : Bool) (side : BitVec 1) : (s.setOrder den side).calls = s.calls := rfl
@[simp] theorem State.setOrder_c_variant (s : State) (den : Bool) (side : BitVec 1) : (s.setOrder den side).c.variant = s.c.variant := rfl
@[simp] theorem State.setOrder_c_selectedDrive (s : State) (den : Bool) (side : BitVec 1) : (s.setOrder den side).c.selectedDrive = s.c.selectedDrive := rfl
@[simp] theorem State.setOrder_c_firmwareROM (s : State) (den : Bool) (side : BitVec 1) : (s.setOrder den side).c.firmwareROM = s.c.firmwareROM := rfl
@[simp] theorem State.setOrder_c_motorsRunning (s : State) (den : Bool) (side : BitVec 1) : (s.setOrder den side).c.motorsRunning = s.c.motorsRunning := rfl
@[simp] theorem State.setOrder_c_lastMotorActivity (s : State) (den : Bool) (side : BitVec 1) : (s.setOrder den side).c.lastMotorActivity = s.c.lastMotorActivity := rfl
@[simp] theorem State.setOrder_c_drives (s : State) (den : Bool) (side : BitVec 1) : (s.setOrder den side).c.drives = s.c.drives := rfl
@[simp] theorem State.setOrder_c_orderDouble (s : State) (den : Bool) (side : BitVec 1) : (s.setOrder den side).c.orderDouble = den := rfl
@[simp] theorem State.setOrder_c_orderSide (s : State) (den : Bool) (side : BitVec 1) : (s.setOrder den side).c.orderSide = side := rfl

@[simp] theorem State.called_cfg (s : State) (h : HostCall) : (s.called h).cfg = s.cfg := rfl
@[simp] theorem State.called_ram (s : State) (h : HostCall) : (s.called h).ram = s.ram := rfl
@[simp] theorem State.called_c (s : State) (h : HostCall) : (s.called h).c = s.c := rfl
@[simp] theorem State.called_fault (s : State) (h : HostCall) : (s.called h).fault = s.fault := rfl
@[simp] theorem State.called_autoCommitConfig (s : State) (h : HostCall) : (s.called h).autoCommitConfig = s.autoCommitConfig := rfl
@[simp] theorem State.called_readOnlyConfig (s : State) (h : HostCall) : (s.called h).readOnlyConfig = s.readOnlyConfig := rfl
@[simp] theorem State.called_draws (s : State) (h : HostCall) : (s.called h).draws = s.draws := rfl
@[simp] theorem State.called_pending (s : State) (h : HostCall) : (s.called h).pending = s.pending := rfl
@[simp] theorem State.called_result (s : State) (h : HostCall) : (s.called h).result = s.result := rfl
@[simp] theorem State.called_calls (s : State) (h : HostCall) : (s.called h).calls = h :: s.calls := rfl

@[simp] theorem State.updateSel_cfg (s : State) (r : Bool) : (s.updateSel r).cfg = s.cfg := rfl
@[simp] theorem State.updateSel_ram (s : State) (r : Bool) : (s.updateSel r).ram = s.ram := rfl
@[simp] theorem State.updateSel_fault (s : State) (r : Bool) : (s.updateSel r).fault = s.fault := rfl
@[simp] theorem State.updateSel_autoCommitConfig (s : State) (r : Bool) : (s.updateSel r).autoCommitConfig = s.autoCommitConfig := rfl
@[simp] theorem State.updateSel_readOnlyConfig (s : State) (r : Bool) : (s.updateSel r).readOnlyConfig = s.readOnlyConfig := rfl
@[simp] theorem State.updateSel_draws (s : State) (r : Bool) : (s.updateSel r).draws = s.draws := rfl
@[simp] theorem State.updateSel_pending (s : State) (r : Bool) : (s.updateSel r).pending = s.pending := rfl
@[simp] theorem State.updateSel_result (s : State) (r : Bool) : (s.updateSel r).result = s.result := rfl
@[simp] theorem State.updateSel_calls (s : State) (r : Bool) : (s.updateSel r).calls = s.calls := rfl
@[simp] theorem State.updateSel_c_variant (s : State) (r : Bool) : (s.updateSel r).c.variant = s.c.variant := rfl
@[simp] theorem State.updateSel_c_selectedDrive (s : State) (r : Bool) : (s.updateSel r).c.selectedDrive = s.c.selectedDrive := rfl
@[simp] theorem State.updateSel_c_firmwareROM (s : State) (r : Bool) : (s.updateSel r).c.firmwareROM = s.c.firmwareROM := rfl
@[simp] theorem State.updateSel_c_motorsRunning (s : State) (r : Bool) : (s.updateSel r).c.motorsRunning = s.c.motorsRunning := rfl
@[simp] theorem State.updateSel_c_lastMotorActivity (s : State) (r : Bool) : (s.updateSel r).c.lastMotorActivity = s.c.lastMotorActivity := rfl
@[simp] theorem State.updateSel_c_orderDouble (s : State) (r : Bool) : (s.updateSel r).c.orderDouble = s.c.orderDouble := rfl
@[simp] theorem State.updateSel_c_orderSide (s : State) (r : Bool) : (s.updateSel r).c.orderSide = s.c.orderSide := rfl

@[simp] theorem State.clearHole_cfg (s : State) : (s.clearHole).cfg = s.cfg := rfl
@[simp] theorem State.clearHole_ram (s : State) : (s.clearHole).ram = s.ram := rfl
@[simp] theorem State.clearHole_fault (s : State) : (s.clearHole).fault = s.fault := rfl
@[simp] theorem State.clearHole_autoCommitConfig (s : State) : (s.clearHole).autoCommitConfig = s.autoCommitConfig := rfl
@[simp] theorem State.clearHole_readOnlyConfig (s : State) : (s.clearHole).readOnlyConfig = s.readOnlyConfig := rfl
@[simp] theorem State.clearHole_draws (s : State) : (s.clearHole).draws = s.draws := rfl
@[simp] theorem State.clearHole_pending (s : State) : (s.clearHole).pending = s.pending := rfl
@[simp] theorem State.clearHole_result (s : State) : (s.clearHole).result = s.result := rfl
@[simp] theorem State.clearHole_calls (s : State) : (s.clearHole).calls = s.calls := rfl
@[simp] theorem State.clearHole_c_variant (s : State) : (s.clearHole).c.variant = s.c.variant := rfl
@[simp] theorem State.clearHole_c_selectedDrive (s : State) : (s.clearHole).c.selectedDrive = s.c.selectedDrive := rfl
@[simp] theorem State.clearHole_c_firmwareROM (s : State) : (s.clearHole).c.firmwareROM = s.c.firmwareROM := rfl
@[simp] theorem State.clearHole_c_motorsRunning (s : State) : (s.clearHole).c.motorsRunning = s.c.motorsRunning := rfl
@[simp] theorem State.clearHole_c_lastMotorActivity (s : State) : (s.clearHole).c.lastMotorActivity = s.c.lastMotorActivity := rfl
@[simp] theorem State.clearHole_c_orderDouble (s : State) : (s.clearHole).c.orderDouble = s.c.orderDouble := rfl
@[simp] theorem State.clearHole_c_orderSide (s : State) : (s.clearHole).c.orderSide = s.c.orderSide := rfl

@[simp] theorem State.stepFlipFlop_cfg (s : State) (bit : Bool) : (s.stepFlipFlop bit).cfg = s.cfg := rfl
@[simp] theorem State.stepFlipFlop_ram (s : State) (bit : Bool) : (s.stepFlipFlop bit).ram = s.ram := rfl
@[simp] theorem State.stepFlipFlop_fault (s : State) (bit : Bool) : (s.stepFlipFlop bit).fault = s.fault := rfl
@[simp] theorem State.stepFlipFlop_autoCommitConfig (s : State) (bit : Bool) : (s.stepFlipFlop bit).autoCommitConfig = s.autoCommitConfig := rfl
@[simp] theorem State.stepFlipFlop_readOnlyConfig (s : State) (bit : Bool) : (s.stepFlipFlop bit).readOnlyConfig = s.readOnlyConfig := rfl
@[simp] theorem State.stepFlipFlop_draws (s : State) (bit : Bool) : (s.stepFlipFlop bit).draws = s.draws := rfl
@[simp] theorem State.stepFlipFlop_pending (s : State) (bit : Bool) : (s.stepFlipFlop bit).pending = s.pending := rfl
@[simp] theorem State.stepFlipFlop_result (s : State) (bit : Bool) : (s.stepFlipFlop bit).result = s.result := rfl
@[simp] theorem State.stepFlipFlop_calls (s : State) (bit : Bool) : (s.stepFlipFlop bit).calls = s.calls := rfl
@[simp] theorem State.stepFlipFlop_c_variant (s : State) (bit : Bool) : (s.stepFlipFlop bit).c.variant = s.c.variant := rfl
@[simp] theorem State.stepFlipFlop_c_selectedDrive (s : State) (bit : Bool) : (s.stepFlipFlop bit).c.selectedDrive = s.c.selectedDrive := rfl
@[simp] theorem State.stepFlipFlop_c_firmwareROM (s : State) (bit : Bool) : (s.stepFlipFlop bit).c.firmwareROM = s.c.firmwareROM := rfl
@[simp] theorem State.stepFlipFlop_c_motorsRunning (s : State) (bit : Bool) : (s.stepFlipFlop bit).c.motorsRunning = s.c.motorsRunning := rfl
@[simp] theorem State.stepFlipFlop_c_lastMotorActivity (s : State) (bit : Bool) : (s.stepFlipFlop bit).c.lastMotorActivity = s.c.lastMotorActivity := rfl
@[simp] theorem State.stepFlipFlop_c_orderDouble (s : State) (bit : Bool) : (s.stepFlipFlop bit).c.orderDouble = s.c.orderDouble := rfl
@[simp] theorem State.stepFlipFlop_c_orderSide (s : State) (bit : Bool) : (s.stepFlipFlop bit).c.orderSide = s.c.orderSide := rfl

@[simp] theorem State.stepDirection_cfg (s : State) (dir : StepDirection) : (s.stepDirection dir).cfg = s.cfg := rfl
@[simp] theorem State.stepDirection_ram (s : State) (dir : StepDirection) : (s.stepDirection dir).ram = s.ram := rfl
@[simp] theorem State.stepDirection_fault (s : State) (dir : StepDirection) : (s.stepDirection dir).fault = s.fault := rfl
@[simp] theorem State.stepDirection_autoCommitConfig (s : State) (dir : StepDirection) : (s.stepDirection dir).autoCommitConfig = s.autoCommitConfig := rfl
@[simp] theorem State.stepDirection_readOnlyConfig (s : State) (dir : StepDirection) : (s.stepDirection dir).readOnlyConfig = s.readOnlyConfig := rfl
@[simp] theorem State.stepDirection_draws (s : State) (dir : StepDirection) : (s.stepDirection dir).draws = s.draws := rfl
@[simp] theorem State.stepDirection_pending (s : State) (dir : StepDirection) : (s.stepDirection dir).pending = s.pending := rfl
@[simp] theorem State.stepDirection_result (s : State) (dir : StepDirection) : (s.stepDirection dir).result = s.result := rfl
@[simp] theorem State.stepDirection_calls (s : State) (dir : StepDirection) : (s.stepDirection dir).calls = s.calls := rfl
@[simp] theorem State.stepDirection_c_variant (s : State) (dir : StepDirection) : (s.stepDirection dir).c.variant = s.c.variant := rfl
@[simp] theorem State.stepDirection_c_selectedDrive (s : State) (dir : StepDirection) : (s.stepDirection dir).c.selectedDrive = s.c.selectedDrive := rfl
@[simp] theorem State.stepDirection_c_firmwareROM (s : State) (dir : StepDirection) : (s.stepDirection dir).c.firmwareROM = s.c.firmwareROM := rfl
@[simp] theorem State.stepDirection_c_motorsRunning (s : State) (dir : StepDirection) : (s.stepDirection dir).c.motorsRunning = s.c.motorsRunning := rfl
@[simp] theorem State.stepDirection_c_lastMotorActivity (s : State) (dir : StepDirection) : (s.stepDirection dir).c.lastMotorActivity = s.c.lastMotorActivity := rfl
@[simp] theorem State.stepDirection_c_orderDouble (s : State) (dir : StepDirection) : (s.stepDirection dir).c.orderDouble = s.c.orderDouble := rfl
@[simp] theorem State.stepDirection_c_orderSide (s : State) (dir : StepDirection) : (s.stepDirection dir).c.orderSide = s.c.orderSide := rfl

/-! ### The selected drive after an update -/

@[simp] theorem State.tick_sel (s : State) : s.tick.sel = s.sel := rfl
@[simp] theorem State.touchMotors_sel (s : State) : s.touchMotors.sel = s.sel := rfl
@[simp] theorem State.beginDispatch_sel (s : State) : s.beginDispatch.sel = s.sel := rfl
@[simp] theorem State.setOrder_sel (s : State) (den : Bool) (side : BitVec 1) : (s.setOrder den side).sel = s.sel := rfl
@[simp] theorem State.called_sel (s : State) (h : HostCall) : (s.called h).sel = s.sel := rfl

theorem Controller.drive_set_same (c : Controller) (u : Nat) (d : Drive) (h : u < c.drives.length) :
    ({ c with drives := c.drives.set u d } : Controller).drive u = d := by
  simp [Controller.drive, h]

theorem Controller.drive_set_other (c : Controller) (u w : Nat) (d : Drive) (h : u ≠ w) :
    ({ c with drives := c.drives.set u d } : Controller).drive w = c.drive w := by
  simp [Controller.drive, List.getElem?_set_ne h]

theorem State.setSel_sel (s : State) (d : Drive) (h : s.c.selectedDrive < s.c.drives.length) :
    (s.setSel d).sel = d := Controller.drive_set_same s.c _ d h

theorem State.setSel_drive_other (s : State) (d : Drive) (u : Nat) (h : u ≠ s.c.selectedDrive) :
    (s.setSel d).c.drive u = s.c.drive u := Controller.drive_set_other s.c _ u d (Ne.symm h)

theorem State.setSel_setSel (s : State) (d d' : Drive) : (s.setSel d).setSel d' = s.setSel d' := by
  simp [State.setSel, State.setDrive, List.set_set]

theorem State.select_sel (s : State) (u : Nat) : (s.select u).sel = s.c.drive u := rfl

theorem State.updateSel_sel (s : State) (r : Bool) (h : s.c.selectedDrive < s.c.drives.length) :
    (s.updateSel r).sel = s.sel.update s.cfg r (Config.jitterDraw s.draws) := s.setSel_sel _ h

/-- An update touches the selected drive alone (R189). -/
theorem State.updateSel_drive_other (s : State) (r : Bool) (u : Nat) (h : u ≠ s.c.selectedDrive) :
    (s.updateSel r).c.drive u = s.c.drive u := s.setSel_drive_other _ u h

@[simp] theorem State.updateSel_length (s : State) (r : Bool) :
    (s.updateSel r).c.drives.length = s.c.drives.length := by simp [State.updateSel]

end Sys2Proof.Machine
end

