-- ==== Sys2Proof/Laws/Ops.lean ====
section
/-! SUPPORT. What each shared operation can do, said once: the guards and ends of a bus operation, a drive call, the
command frames of the two controllers, and `Moves`, the elementary moves every bus operation is made of, from which
an invariant of bus operations follows by one case for each move. -/

namespace Sys2Proof.Machine

/-! ### Guards and ends -/

@[simp] theorem whenLive_live (s : State) (k) (h : s.fault = none) : whenLive s k = k s := by simp [whenLive, h]

theorem whenLive_halted (s : State) (k) (r : FaultRecord) (h : s.fault = some r) :
    whenLive s k = .fault (.halted r) := by simp [whenLive, h]

@[simp] theorem Res.bind_ok (x : α) (s : State) (k : α → State → Res β) : (Res.ok x s).bind k = k x s := rfl
@[simp] theorem Res.bind_faulted (s : State) (k : α → State → Res β) : (Res.faulted s).bind k = .faulted s := rfl
@[simp] theorem finishByte_ok (b : Byte) (s : State) : finishByte (.ok b s) = .next { s with result := .byte b } := rfl
@[simp] theorem finishByte_faulted (s : State) : finishByte (.faulted s) = .next { s with result := .none } := rfl
@[simp] theorem finishWord_ok (w : Word16) (s : State) :
    finishWord (.ok w s) = .next { s with result := .word w } := rfl
@[simp] theorem finishWord_faulted (s : State) : finishWord (.faulted s) = .next { s with result := .none } := rfl

theorem Res.bind_assoc (r : Res α) (k : α → State → Res β) (l : β → State → Res γ) :
    (r.bind k).bind l = r.bind fun x s => (k x s).bind l := by cases r <;> rfl

/-- On its own controller a row runs its meaning. -/
theorem onController_own (v : Variant) (a : Addr) (m : State → Res Byte) (s : State) (hl : s.fault = none)
    (hv : s.c.variant = v) : onController v a m s = finishByte (m s) := by
  simp [onController, hl, hv]

/-- The state an operation ends in, with an answer or with a fault. -/
def Res.state : Res α → State
  | .ok _ s => s
  | .faulted s => s

/-! ### Drive calls -/

theorem callDrive_ok (a : Addr) (f : DriveEnv → Drive → DriveDone α) (s : State) (x : α) (d : Drive)
    (calls : List HostCall) (h : f s.env s.sel = .ok x d calls) :
    callDrive a f s = .ok x { s.setSel d with calls := calls ++ s.calls } := by simp [callDrive, h]

theorem callDrive_fault (a : Addr) (f : DriveEnv → Drive → DriveDone α) (s : State) (e : DriveFault) (d : Drive)
    (h : f s.env s.sel = .fault e d) :
    callDrive a f s = .faulted { s.setSel d with fault := some (recordOf s.sel.driveNumber a e) } := by
  simp [callDrive, h, raise]

/-! ### The elementary moves of a bus operation -/

/-- What may happen to the selected drive at once, given what a drive operation reads. -/
inductive DriveMove (env : DriveEnv) (d : Drive) : Drive → Prop
  | update (r : Bool) (seed : Nat) : DriveMove env d (d.update env.cfg r seed)
  | read : DriveMove env d (d.readByte env).drive
  | begin : DriveMove env d (d.beginWrite env).drive
  | write (v : Byte) : DriveMove env d (d.writeByte env v).drive
  | clearHole : DriveMove env d { d with sectorHoleDetected := false }
  | latch (bit : Bool) : DriveMove env d (d.setStepFlipFlop bit)
  | direction (way : StepDirection) : DriveMove env d (d.setStepDirection way)

/-- One elementary move of a dispatch. -/
inductive Move (s : State) : State → Prop
  | tick : Move s s.tick
  | motors : Move s s.touchMotors
  | drive (d : Drive) : DriveMove s.env s.sel d → Move s (s.setSel d)
  | call (h : List HostCall) : Move s { s with calls := h }
  | select (u : Nat) : u ≤ numUnits s.c.variant → Move s (s.select u)
  | order (den : Bool) (side : BitVec 1) : s.c.variant = .dd → Move s (s.setOrder den side)
  | fault (r : FaultRecord) : Move s { s with fault := some r }
  | result (r : BusResult) : Move s { s with result := r }

/-- Any number of elementary moves. -/
abbrev Moves : State → State → Prop := Relation.ReflTransGen Move

theorem Moves.one (h : Move s t) : Moves s t := Relation.ReflTransGen.single h

theorem Moves.beginDispatch (s : State) : Moves s s.beginDispatch :=
  (Moves.one (.tick (s := s))).trans (.single .motors)

theorem Moves.updateSel (s : State) (r : Bool) : Moves s (s.updateSel r) :=
  .one (.drive _ (.update (env := s.env) r _))

theorem Moves.callDrive (a : Addr) (f : DriveEnv → Drive → DriveDone α) (s : State)
    (h : DriveMove s.env s.sel (f s.env s.sel).drive) : Moves s (callDrive a f s).state := by
  unfold Machine.callDrive
  cases hf : f s.env s.sel with
  | ok x d calls =>
    rw [hf] at h
    exact (Moves.one (.drive d h)).trans (.single (.call _))
  | fault e d =>
    rw [hf] at h
    exact (Moves.one (.drive d h)).trans (.single (.fault _))

theorem Moves.bind (r : Res α) (k : α → State → Res β) (hr : Moves s r.state)
    (hk : ∀ x t, Moves s t → Moves s (k x t).state) : Moves s (r.bind k).state := by
  cases r with
  | ok x t => exact hk x t hr
  | faulted t => exact hr

theorem Moves.sdResult (a : Addr) (d b : Bool) (s : State) : Moves s (sdResult a d b s).state := by
  unfold Machine.sdResult
  split
  · exact Moves.callDrive a _ s .read
  · split <;> exact .refl

theorem Moves.ddResult (a : Addr) (mux : BitVec 4) (s : State) : Moves s (ddResult a mux s).state := by
  unfold Machine.ddResult
  split
  case h_4 => exact Moves.callDrive a _ s .read
  all_goals exact .refl

theorem Moves.sdCommand (a : Addr) (d b : Bool) (effect : State → Res Unit) (s : State)
    (h : Moves (s.beginDispatch.updateSel b) (effect (s.beginDispatch.updateSel b)).state) :
    Moves s (sdCommand a d b effect s).state :=
  Moves.bind _ _ (((Moves.beginDispatch s).trans (Moves.updateSel _ b)).trans h)
    fun _ t ht => ht.trans (Moves.sdResult a d b t)

theorem Moves.ddCommand (a : Addr) (mux : BitVec 4) (effect : State → Res Bool) (s : State)
    (h : Moves (s.beginDispatch.updateSel (mux == 2#4)) (effect (s.beginDispatch.updateSel (mux == 2#4))).state) :
    Moves s (ddCommand a mux effect s).state := by
  refine Moves.bind _ _ (((Moves.beginDispatch s).trans (Moves.updateSel _ _)).trans h) fun x t ht => ?_
  split
  · exact ht.trans (Moves.ddResult a mux t)
  · exact ht

theorem oneHot_le (ds : BitVec 4) : oneHot ds ≤ 4 := by
  revert ds; decide

theorem Moves.sdRead (a : Addr) (s : State) (h : s.c.variant = .sd) : Moves s (sdRead a s).state := by
  unfold Machine.sdRead
  split
  · exact .refl
  · exact .refl
  · refine Moves.bind _ _ (((Moves.beginDispatch s).trans (Moves.updateSel _ _)).trans
      (Moves.callDrive a _ _ (.write _))) fun _ _ ht => ht
  · unfold Machine.sdCmdRead
    split
    · refine Moves.sdCommand _ _ _ _ _ ?_
      split
      · exact .one (.fault _)
      · refine .one (.select _ ?_)
        simp only [State.updateSel_c_variant, State.beginDispatch_c_variant, h, numUnits]
        have := (sdP (params a)).isLt
        omega
    · exact Moves.sdCommand _ _ _ _ _ (Moves.bind _ _ (Moves.callDrive a _ _ .begin) fun _ _ ht => ht)
    · exact Moves.sdCommand _ _ _ _ _ (.one (.drive _ (.latch _)))
    · exact Moves.sdCommand _ _ _ _ _ .refl
    · exact Moves.sdCommand _ _ _ _ _ .refl
    · exact Moves.sdCommand _ _ _ _ _ (.one (.drive _ .clearHole))
    · exact Moves.sdCommand _ _ _ _ _ .refl
    · exact Moves.sdCommand _ _ _ _ _ (.one (.drive _ (.direction _)))

theorem Moves.orderDirection (s : State) (dir : Bool) : Moves s (s.orderDirection dir) := by
  unfold State.orderDirection
  split
  · exact .refl
  · exact .one (.drive _ (.direction _))

@[simp] theorem State.orderDirection_variant (s : State) (dir : Bool) :
    (s.orderDirection dir).c.variant = s.c.variant := by
  unfold State.orderDirection; split <;> rfl

theorem Moves.ddOrderRead (den : Bool) (side : BitVec 1) (dir step : Bool) (ds : BitVec 4) (s : State)
    (h : s.c.variant = .dd) : Moves s (ddOrderRead den side dir step ds s).state := by
  have h1 : Moves s (s.beginDispatch.setOrder den side) := (Moves.beginDispatch s).trans (.single (.order _ _ h))
  have h2 := h1.trans (Moves.orderDirection _ dir)
  have h3 : Moves s (((s.beginDispatch.setOrder den side).orderDirection dir).stepFlipFlop step) :=
    h2.trans (.single (.drive _ (.latch _)))
  exact h3.trans (.single (.select _ (by simpa [h, numUnits] using oneHot_le ds)))

theorem Moves.ddRead (a : Addr) (s : State) (h : s.c.variant = .dd) : Moves s (ddRead a s).state := by
  unfold Machine.ddRead
  split
  · exact .refl
  · refine Moves.bind _ _ (((Moves.beginDispatch s).trans (Moves.updateSel _ _)).trans
      (Moves.callDrive a _ _ (.write _))) fun _ _ ht => ht
  · exact Moves.ddOrderRead _ _ _ _ _ s h
  · unfold Machine.ddCmdRead
    split
    · exact Moves.ddCommand _ _ _ _ .refl
    · exact Moves.ddCommand _ _ _ _ (.one (.drive _ .clearHole))
    · exact Moves.ddCommand _ _ _ _ .refl
    · exact Moves.ddCommand _ _ _ _ .refl
    · exact Moves.ddCommand _ _ _ _ .refl
    · exact Moves.ddCommand _ _ _ _ .refl
    · exact Moves.ddCommand _ _ _ _ (Moves.callDrive a _ _ .begin)
    · exact Moves.ddCommand _ _ _ _ .refl
    · exact Moves.ddCommand _ _ _ _ (.one (.fault _))

theorem Moves.readOutside (g : Region) (a : Addr) (s : State) : Moves s (readOutside g a s).2 := by
  cases g
  · exact .refl
  · exact (Moves.one (.tick (s := s))).trans (.single (.call _))
  · exact (Moves.one (.tick (s := s))).trans (.single (.call _))
  · exact .refl

/-- A byte read is made of the elementary moves. -/
theorem Moves.busRead (a : Addr) (s : State) : Moves s (busRead a s).state := by
  unfold Machine.busRead
  split
  · unfold controllerRead
    cases h : s.c.variant
    · exact Moves.sdRead a s h
    · exact Moves.ddRead a s h
  · exact Moves.readOutside _ a s

/-- A word read is made of the elementary moves. -/
theorem Moves.busReadWord (a : Addr) (s : State) : Moves s (busReadWord a s).state :=
  Moves.bind _ _ (Moves.busRead a s) fun _ t ht =>
    ht.trans (Moves.bind _ _ (Moves.busRead (second a) t) fun _ _ hu => hu)

/-- A property that every elementary move keeps is kept by any number of them. -/
theorem Moves.preserve {P : State → Prop} (hP : ∀ s t, Move s t → P s → P t) (h : Moves s t) (hs : P s) : P t := by
  induction h with
  | refl => exact hs
  | tail _ hm ih => exact hP _ _ hm ih

end Sys2Proof.Machine
end

