-- ==== Sys2Proof/Laws/PerInstr.lean ====
section
/-! SUPPORT. Statements about every instruction as syntax, one lemma per constructor. `RowMatch`: the address an
instruction is encoded at has its opcode-table row's fixed bits (match and mask of spec/opcode_table.json). -/

namespace Sys2Proof.Laws.RowMatch

/-- The row's mask. -/
def rowMask : Instr → Addr
  | .rd _ => 0x0000#16
  | .wr _ _ => 0x0000#16
  | .rdw _ => 0x0000#16
  | .wrw _ _ => 0x0000#16
  | .sdProm _ => 0xFF00#16
  | .sdProm1 _ => 0xFF00#16
  | .sdWdata _ => 0xFF00#16
  | .sdSel _ _ _ _ => 0xFF1C#16
  | .sdWrt _ _ _ _ => 0xFF1C#16
  | .sdStpff _ _ _ _ => 0xFF1C#16
  | .sdIntr _ _ _ _ => 0xFF1C#16
  | .sdNop _ _ _ _ => 0xFF1C#16
  | .sdRsf _ _ _ _ => 0xFF1C#16
  | .sdReset _ _ _ _ => 0xFF1C#16
  | .sdStpdir _ _ _ _ => 0xFF1C#16
  | .ddProm _ => 0xFF00#16
  | .ddWdata _ => 0xFF00#16
  | .ddOrder _ _ _ _ _ => 0xFF00#16
  | .ddNop _ => 0xFF0F#16
  | .ddRsf _ => 0xFF0F#16
  | .ddIntr2 _ => 0xFF0F#16
  | .ddIntr3 _ => 0xFF0F#16
  | .ddBody _ => 0xFF0F#16
  | .ddMotor _ => 0xFF0F#16
  | .ddWrt _ => 0xFF0F#16
  | .ddReset _ => 0xFF0F#16
  | .ddUndef _ _ => 0xFF08#16

/-- The row's match. -/
def rowMatch : Instr → Addr
  | .rd _ => 0x0000#16
  | .wr _ _ => 0x0000#16
  | .rdw _ => 0x0000#16
  | .wrw _ _ => 0x0000#16
  | .sdProm _ => 0xE800#16
  | .sdProm1 _ => 0xE900#16
  | .sdWdata _ => 0xEA00#16
  | .sdSel _ _ _ _ => 0xEB00#16
  | .sdWrt _ _ _ _ => 0xEB04#16
  | .sdStpff _ _ _ _ => 0xEB08#16
  | .sdIntr _ _ _ _ => 0xEB0C#16
  | .sdNop _ _ _ _ => 0xEB10#16
  | .sdRsf _ _ _ _ => 0xEB14#16
  | .sdReset _ _ _ _ => 0xEB18#16
  | .sdStpdir _ _ _ _ => 0xEB1C#16
  | .ddProm _ => 0xE800#16
  | .ddWdata _ => 0xE900#16
  | .ddOrder _ _ _ _ _ => 0xEA00#16
  | .ddNop _ => 0xEB00#16
  | .ddRsf _ => 0xEB01#16
  | .ddIntr2 _ => 0xEB02#16
  | .ddIntr3 _ => 0xEB03#16
  | .ddBody _ => 0xEB04#16
  | .ddMotor _ => 0xEB05#16
  | .ddWrt _ => 0xEB06#16
  | .ddReset _ => 0xEB07#16
  | .ddUndef _ _ => 0xEB08#16

/-- The encoding has the row's fixed bits. -/
def Statement (i : Instr) : Prop := encodeAddr i &&& rowMask i = rowMatch i

theorem page_fixed (page q : Byte) : pageAddr page q &&& 0xFF00#16 = page ++ 0x00#8 := by
  have h : (0xFF00#16 : Addr) = 0xFF#8 ++ 0x00#8 := by decide
  have hp : page &&& 0xFF#8 = page := BitVec.and_allOnes (x := page)
  rw [h, pageAddr, BitVec.and_append, hp, BitVec.and_zero]

theorem sd_fixed : ∀ (x d b : Bool) (cmd : BitVec 3) (p : BitVec 2),
    sdAddr x d b cmd p &&& 0xFF1C#16 = sdAddr false false false cmd 0#2 := by
  decide

theorem dd_fixed : ∀ (mux cmd : BitVec 4), ddAddr mux cmd &&& 0xFF0F#16 = ddAddr 0#4 cmd := by
  decide

theorem undef_fixed : ∀ (mux : BitVec 4) (low : BitVec 3), ddAddr mux (undefCode low) &&& 0xFF08#16 = 0xEB08#16 := by
  decide

theorem rd (a : Addr) : Statement (.rd a) := BitVec.and_zero

theorem wr (a : Addr) (v : Byte) : Statement (.wr a v) := BitVec.and_zero

theorem rdw (a : Addr) : Statement (.rdw a) := BitVec.and_zero

theorem wrw (a : Addr) (w : Word16) : Statement (.wrw a w) := BitVec.and_zero

theorem sdProm (k : Byte) : Statement (.sdProm k) := page_fixed _ _

theorem sdProm1 (k : Byte) : Statement (.sdProm1 k) := page_fixed _ _

theorem sdWdata (v : Byte) : Statement (.sdWdata v) := page_fixed _ _

theorem sdSel (x d b : Bool) (p : BitVec 2) : Statement (.sdSel x d b p) := sd_fixed x d b _ p

theorem sdWrt (x d b : Bool) (p : BitVec 2) : Statement (.sdWrt x d b p) := sd_fixed x d b _ p

theorem sdStpff (x d b : Bool) (p : BitVec 2) : Statement (.sdStpff x d b p) := sd_fixed x d b _ p

theorem sdIntr (x d b : Bool) (p : BitVec 2) : Statement (.sdIntr x d b p) := sd_fixed x d b _ p

theorem sdNop (x d b : Bool) (p : BitVec 2) : Statement (.sdNop x d b p) := sd_fixed x d b _ p

theorem sdRsf (x d b : Bool) (p : BitVec 2) : Statement (.sdRsf x d b p) := sd_fixed x d b _ p

theorem sdReset (x d b : Bool) (p : BitVec 2) : Statement (.sdReset x d b p) := sd_fixed x d b _ p

theorem sdStpdir (x d b : Bool) (p : BitVec 2) : Statement (.sdStpdir x d b p) := sd_fixed x d b _ p

theorem ddProm (k : Byte) : Statement (.ddProm k) := page_fixed _ _

theorem ddWdata (v : Byte) : Statement (.ddWdata v) := page_fixed _ _

theorem ddOrder (den : Bool) (side : BitVec 1) (dir step : Bool) (ds : BitVec 4) : Statement (.ddOrder den side dir step ds) := page_fixed _ _

theorem ddNop (m : BitVec 4) : Statement (.ddNop m) := dd_fixed m _

theorem ddRsf (m : BitVec 4) : Statement (.ddRsf m) := dd_fixed m _

theorem ddIntr2 (m : BitVec 4) : Statement (.ddIntr2 m) := dd_fixed m _

theorem ddIntr3 (m : BitVec 4) : Statement (.ddIntr3 m) := dd_fixed m _

theorem ddBody (m : BitVec 4) : Statement (.ddBody m) := dd_fixed m _

theorem ddMotor (m : BitVec 4) : Statement (.ddMotor m) := dd_fixed m _

theorem ddWrt (m : BitVec 4) : Statement (.ddWrt m) := dd_fixed m _

theorem ddReset (m : BitVec 4) : Statement (.ddReset m) := dd_fixed m _

theorem ddUndef (m : BitVec 4) (low : BitVec 3) : Statement (.ddUndef m low) := undef_fixed m low

end Sys2Proof.Laws.RowMatch
end

