-- ==== Sys2Proof/Tests/Slice0.lean ====
section
/-! SUPPORT. The model's own tests. Words are written out field by field from 30_encoding.md; expected results are the
vectors of 95_test_vectors.md under its configuration TC, each named by its number there. -/

open Sys2Proof Sys2Proof.Machine Sys2Proof.Claims

namespace Sys2Proof.Tests

/-! ### WellFormed refuses ill-formed terms -/

/-- A row of the other controller is refused, by the variant check alone. -/
theorem test_wf_refuses_other_controller :
    (Instr.ddNop 1).wf .sd = false ∧ (Instr.ddNop 1).spellingOk = true ∧
      (Instr.sdProm1 0).wf .dd = false ∧ (Instr.sdProm1 0).spellingOk = true := by decide

/-- `rd` inside the floppy range is refused, by the spelling check alone, at both ends of the range and not beyond. -/
theorem test_wf_refuses_rd_in_floppy_range :
    (Instr.rd 0xE800).wf .sd = false ∧ (Instr.rd 0xE800).variantOk .sd = true ∧ (Instr.rd 0xEBFF).wf .dd = false ∧
      (Instr.rd 0xE7FF).wf .sd = true ∧ (Instr.rd 0xEC00).wf .dd = true := by decide

/-! ### Decoding: one word for each constructor, its bits from the formats of R81 to R89 -/

/-- The byte read whose address has opType `t` and low byte `q` (R82: bits 15..10 are 111010). -/
def floppyRead (t : BitVec 2) (q : Byte) : BusOp := .readByte (0b111010#6 ++ t ++ q)

theorem test_decode_bus_rows :
    decodeOp .sd (.readByte 0x1234) = .rd 0x1234 ∧ decodeOp .dd (.writeByte 0xEB10 0x77) = .wr 0xEB10 0x77 ∧
      decodeOp .sd (.readWord 0xEB50) = .rdw 0xEB50 ∧ decodeOp .dd (.writeWord 0xFFFF 0xBEEF) = .wrw 0xFFFF 0xBEEF := by
  decide

/-- R83. -/
theorem test_decode_sd_pages :
    decodeOp .sd (floppyRead 0b00 0b01010000) = .sdProm 0x50 ∧
      decodeOp .sd (floppyRead 0b01 0b11111111) = .sdProm1 0xFF ∧
      decodeOp .sd (floppyRead 0b10 0b11111011) = .sdWdata 0xFB := by decide

/-- R84, R85: x, D, B, cmd, p from bit 7 down. -/
theorem test_decode_sd_commands :
    decodeOp .sd (floppyRead 0b11 (0b0#1 ++ 0b0#1 ++ 0b1#1 ++ 0b000#3 ++ 0b11#2)) = .sdSel false false true 3 ∧
      decodeOp .sd (floppyRead 0b11 (0b0#1 ++ 0b1#1 ++ 0b0#1 ++ 0b001#3 ++ 0b00#2)) = .sdWrt false true false 0 ∧
      decodeOp .sd (floppyRead 0b11 (0b0#1 ++ 0b0#1 ++ 0b0#1 ++ 0b010#3 ++ 0b01#2)) = .sdStpff false false false 1 ∧
      decodeOp .sd (floppyRead 0b11 (0b1#1 ++ 0b0#1 ++ 0b1#1 ++ 0b011#3 ++ 0b10#2)) = .sdIntr true false true 2 ∧
      decodeOp .sd (floppyRead 0b11 (0b0#1 ++ 0b1#1 ++ 0b0#1 ++ 0b100#3 ++ 0b00#2)) = .sdNop false true false 0 ∧
      decodeOp .sd (floppyRead 0b11 (0b1#1 ++ 0b0#1 ++ 0b0#1 ++ 0b101#3 ++ 0b00#2)) = .sdRsf true false false 0 ∧
      decodeOp .sd (floppyRead 0b11 (0b0#1 ++ 0b1#1 ++ 0b1#1 ++ 0b110#3 ++ 0b01#2)) = .sdReset false true true 1 ∧
      decodeOp .sd (floppyRead 0b11 (0b0#1 ++ 0b0#1 ++ 0b0#1 ++ 0b111#3 ++ 0b01#2)) = .sdStpdir false false false 1 := by
  decide

/-- R86, R87: DEN, SIDE, DIR, STEP, DS from bit 7 down. -/
theorem test_decode_dd_pages :
    decodeOp .dd (floppyRead 0b00 0b11111111) = .ddProm 0xFF ∧
      decodeOp .dd (floppyRead 0b01 0b10100001) = .ddWdata 0xA1 ∧
      decodeOp .dd (floppyRead 0b10 (0b1#1 ++ 0b0#1 ++ 0b0#1 ++ 0b1#1 ++ 0b0100#4)) =
        .ddOrder true 0 false true 4 ∧
      decodeOp .dd (floppyRead 0b10 (0b0#1 ++ 0b1#1 ++ 0b1#1 ++ 0b0#1 ++ 0b1000#4)) =
        .ddOrder false 1 true false 8 := by decide

/-- R88, R89: MUX, then CMD. -/
theorem test_decode_dd_commands :
    decodeOp .dd (floppyRead 0b11 (0b0001#4 ++ 0b0000#4)) = .ddNop 1 ∧
      decodeOp .dd (floppyRead 0b11 (0b0010#4 ++ 0b0001#4)) = .ddRsf 2 ∧
      decodeOp .dd (floppyRead 0b11 (0b0001#4 ++ 0b0010#4)) = .ddIntr2 1 ∧
      decodeOp .dd (floppyRead 0b11 (0b0011#4 ++ 0b0011#4)) = .ddIntr3 3 ∧
      decodeOp .dd (floppyRead 0b11 (0b1111#4 ++ 0b0100#4)) = .ddBody 15 ∧
      decodeOp .dd (floppyRead 0b11 (0b0000#4 ++ 0b0101#4)) = .ddMotor 0 ∧
      decodeOp .dd (floppyRead 0b11 (0b0100#4 ++ 0b0110#4)) = .ddWrt 4 ∧
      decodeOp .dd (floppyRead 0b11 (0b0101#4 ++ 0b0111#4)) = .ddReset 5 ∧
      decodeOp .dd (floppyRead 0b11 (0b0001#4 ++ 0b1000#4)) = .ddUndef 1 0 ∧
      decodeOp .dd (floppyRead 0b11 (0b0100#4 ++ 0b1111#4)) = .ddUndef 4 7 := by decide

/-- The record: truncated, reserved bits, stray data; and the rest of the bytes. -/
theorem test_decode_record :
    decodeBytes .sd [0x50, 0xEB, 0x00, 0x00] = .error .truncated ∧
      decodeBytes .sd [0x50, 0xEB, 0x04, 0x00, 0x00] = .error .reservedBits ∧
      decodeBytes .sd [0x50, 0xEB, 0x00, 0x01, 0x00] = .error .strayData ∧
      decodeBytes .sd [0x00, 0x20, 0x01, 0x77, 0x01] = .error .strayData ∧
      decodeBytes .sd [0x50, 0xEB, 0x00, 0x00, 0x00, 0x99] = .ok (.sdNop false true false 0, [0x99]) ∧
      decodeBytes .dd [0xFF, 0xFF, 0x03, 0xEF, 0xBE] = .ok (.wrw 0xFFFF 0xBEEF, []) := by decide

/-- Table words: the 16 address bits of the table are a byte read on SD; longer words carry kind, controller and data
(assumption 11). -/
theorem test_decode_table_words :
    decodeTableWord 16 0x0000 = some (.rd 0x0000) ∧
      decodeTableWord 16 0xEB21 = some (.sdSel false false true 1) ∧
      decodeTableWord 24 0x80EB21 = some (.ddRsf 2) ∧ decodeTableWord 24 0x022000 = some (.rdw 0x2000) ∧
      decodeTableWord 32 0x77012000 = some (.wr 0x2000 0x77) ∧
      decodeTableWord 40 0xBEEF032000 = some (.wrw 0x2000 0xBEEF) ∧
      decodeTableWord 24 0x040000 = none ∧ decodeTableWord 48 0 = none := by decide

/-! ### Small states -/

/-- Configuration TC of 95_test_vectors.md; PROM byte `k` is `k`. -/
def tc : Config where
  openCount := 1
  closeCount := 1
  escapeReadData := 2
  escapeReadCrc := 2
  escapeReadEnd := 2
  escapeWriteLeadin := 2
  escapeWriteData := 2
  escapeWriteCrc := 2
  escapeWriteEnd := 2
  jitterMax := 3
  syncByte := 0xFB
  ddSecondByteWhenSingle := false
  sfBitASd := 0
  sfBitBSd := 1
  sfBitADd := 2
  sfBitBDd := 3
  sfBitCDd := 7
  fwLo := 0xF000
  fwHi := 0xF7FF
  dispLo := 0xF800
  dispHi := 0xFBFF
  firmwareROM := Vector.ofFn fun k => BitVec.ofNat 8 k.val
  ticksPerSecond := 1

/-- A drive in `SECTOR_SCAN` at a track and sector. -/
def at' (unit track sector : Nat) : Drive := Drive.powerOn unit false track sector

/-- `41 42 43`, 253 zeros, `99`: the image of program P2, cut after one sector and a byte. -/
def image : List Byte := [0x41, 0x42, 0x43] ++ List.replicate 253 0x00 ++ [0x99]

/-- A live state under TC with unit 1 of a controller selected and set. -/
def withUnit (v : Variant) (d : Drive) : State where
  cfg := tc
  ram := ⟨0, []⟩
  c :=
    { variant := v
      selectedDrive := 1
      firmwareROM := tc.firmwareROM
      motorsRunning := false
      lastMotorActivity := none
      drives := [at' 0 0 0, d, at' 2 3 4] ++ (match v with | .sd => [at' 3 5 5] | .dd => [at' 3 5 5, at' 4 6 6])
      orderDouble := false
      orderSide := 0 }
  fault := none
  autoCommitConfig := false
  readOnlyConfig := [false, false, false, false, false]
  draws := 0
  pending := []
  result := .none
  calls := []

/-- The state an instruction answers, the state before where it answers none. -/
def after (i : Instr) (s : State) : State :=
  match exec i s with
  | .next t => t
  | .fault _ => s
  | .refused _ => s

/-! ### Instructions, against the vectors -/

/-- V-BUS-10 and V-BUS-11. -/
theorem test_wrw_rdw_little_endian :
    let t := after (.wrw 0x2000 0xBEEF) (withUnit .sd (at' 1 0 0))
    t.ram.read 0x2000 = 0xEF ∧ t.ram.read 0x2001 = 0xBE ∧ (after (.rdw 0x2000) t).result = .word 0xBEEF := by
  intro t
  have h0 : (⟨0, []⟩ : Memory).wf = true := rfl
  have ht : t.ram = ((⟨0, []⟩ : Memory).write 0x2000 0xEF).write 0x2001 0xBE := rfl
  have h1 : t.ram.read 0x2001 = 0xBE := by
    rw [ht, Memory.read_write_same _ _ _ (Memory.write_wf _ _ _ h0)]
  have h2 : t.ram.read 0x2000 = 0xEF := by
    rw [ht, Memory.read_write_other _ _ _ _ (by decide), Memory.read_write_same _ _ _ h0]
  refine ⟨h2, h1, ?_⟩
  show BusResult.word (wordOf (t.ram.read 0x2000) (t.ram.read 0x2001)) = _
  rw [h1, h2]
  decide

/-- V-BUS-12. -/
theorem test_wrw_at_the_top_of_memory :
    (after (.wrw 0xFFFF 0xBEEF) (withUnit .sd (at' 1 0 0))).ram.read 0xFFFF = 0xBE := by
  have h0 : (⟨0, []⟩ : Memory).wf = true := rfl
  show (((⟨0, []⟩ : Memory).write 0xFFFF 0xEF).write 0xFFFF 0xBE).read 0xFFFF = 0xBE
  rw [Memory.read_write_same _ _ _ (Memory.write_wf _ _ _ h0)]

/-- V-BUS-6, V-BUS-7, V-BUS-8: a write reaches no controller; only the display is called. -/
theorem test_wr_outside_ram :
    (after (.wr 0xEB10 0x00) (withUnit .sd (at' 1 0 0))).sel.state = .sectorScan ∧
      (after (.wr 0xF123 0x77) (withUnit .sd (at' 1 0 0))).calls = [] ∧
      (after (.wr 0xF900 0x41) (withUnit .sd (at' 1 0 0))).calls = [.writeScreenByte 0xF900 0x41] := by decide

/-- V-BUS-9: the display is asked; V-BUS-2: a PROM read through `rd`. -/
theorem test_rd_display_and_prom :
    (after (.rd 0xF900) (withUnit .sd (at' 1 0 0))).calls = [.readScreenByte 0xF900] ∧
      (after (.rd 0xE850) (withUnit .dd (at' 1 0 0))).result = .byte 0x50 :=
  ⟨by decide, by simp [after, exec, execRd, whenLive, withUnit, busRead, controllerRead, ddRead, ddPromRead,
    State.promByte, tc, inFloppy, opType, params, finishByte]⟩

/-- V-F-5: a word read whose first byte faults does not dispatch the second. -/
theorem test_rdw_stops_at_the_first_fault :
    let t := after (.rdw 0xEB00) (withUnit .sd (at' 1 0 4))
    t.fault = some (.selectUnitZero 0xEB00) ∧ t.c.selectedDrive = 1 ∧ t.result = .none := by decide

theorem test_sdProm :
    (after (.sdProm 0x50) (withUnit .sd (at' 1 0 0))).result = .byte 0x50 ∧
      (after (.sdProm1 0xFF) (withUnit .sd (at' 1 0 0))).result = .byte 0xFF := by
  simp [after, exec, execSdProm, execSdProm1, onController, whenLive, withUnit, sdPromRead, sdProm1Read,
    State.promByte, tc, finishByte]

/-- V-SD-2, V-F-1. -/
theorem test_sdSel_zero_faults :
    let t := after (.sdSel false false false 0) (withUnit .sd (at' 1 0 4))
    t.sel.state = .windowOpen ∧ t.sel.currentSector = 5 ∧ t.fault = some (.selectUnitZero 0xEB00) := by decide

/-- As V-SD-1, from unit 1 to unit 2: the update runs on the unit selected before. -/
theorem test_sdSel :
    let t := after (.sdSel false false false 2) (withUnit .sd (at' 1 0 9))
    t.c.selectedDrive = 2 ∧ (t.c.drive 1).currentSector = 0 ∧ (t.c.drive 2).currentSector = 4 := by decide

/-- V-SD-3. -/
theorem test_sdWrt :
    let t := after (.sdWrt false false false 0) (withUnit .sd { at' 1 0 5 with state := .windowClose })
    t.sel.state = .writeLeadin ∧ t.sel.stateCounter = 3 ∧ t.sel.writeReady = true ∧ t.sel.xferOffset = 1280 ∧
      t.sel.xferRemaining = 256 := by decide

/-- V-SD-4: the read of its own result faults. -/
theorem test_sdWrt_with_data_read :
    (after (.sdWrt false true false 0) (withUnit .sd { at' 1 0 5 with state := .windowClose })).fault =
      some (.internalConsistency .readByte .writeLeadin 1 0xEB44) := by decide

/-- V-SD-6, V-SD-7: the falling edge steps, no edge does not. -/
theorem test_sdStpff :
    (after (.sdStpff false false false 0)
        (withUnit .sd { at' 1 5 0 with stepDirection := .inward, stepFlipFlop := true })).sel.currentTrack = 6 ∧
      (after (.sdStpff false false false 0) (withUnit .sd (at' 1 5 0))).sel.currentTrack = 5 := by decide

/-- W1: the clamps at both ends. -/
theorem test_sdStpff_clamps :
    (after (.sdStpff false false false 2)
        (withUnit .sd { at' 1 34 0 with stepDirection := .inward, stepFlipFlop := true })).sel.currentTrack = 34 ∧
      (after (.sdStpff false false false 2)
        (withUnit .sd { at' 1 0 0 with stepFlipFlop := true })).sel.currentTrack = 0 := by decide

/-- V-SD-8: a B-status probe arms the randomized delay and does not advance. -/
theorem test_sdIntr_probe :
    let t := after (.sdIntr false false true 0) (withUnit .sd (at' 1 0 2))
    t.sel.jitterArmed = true ∧ t.sel.state = .sectorScan ∧ t.sel.currentSector = 2 := by decide

/-- V-SD-12: the first data read starts at the sector the update advances to. -/
theorem test_sdNop_data_read :
    let t := after (.sdNop false true false 0) (withUnit .sd { at' 1 0 9 with diskBuffer := some image })
    t.result = .byte 0x41 ∧ t.sel.state = .readData ∧ t.sel.xferOffset = 1 ∧ t.sel.stateCounter = 3 := by decide

/-- V-RD-4: an escaped read sequence starts anew. -/
theorem test_sdNop_after_escape :
    let t := after (.sdNop false true false 0)
      (withUnit .sd { at' 1 0 0 with diskBuffer := some image, state := .readEnd, crc := 0xB0 })
    t.result = .byte 0x41 ∧ t.sel.currentSector = 0 ∧ t.sel.crc = 0x82 := by decide

/-- V-SD-9: the flag its own update sets is cleared. -/
theorem test_sdRsf :
    let t := after (.sdRsf false false false 0) (withUnit .sd (at' 1 0 0))
    t.sel.sectorHoleDetected = false ∧ t.sel.state = .windowOpen ∧ t.sel.currentSector = 1 := by decide

/-- V-SD-10: nothing is reset. -/
theorem test_sdReset :
    let t := after (.sdReset false false false 0) (withUnit .sd { at' 1 0 0 with state := .readData, stateCounter := 3 })
    t.sel.state = .readData ∧ t.sel.stateCounter = 2 := by decide

/-- V-SD-11, and the other direction. -/
theorem test_sdStpdir :
    (after (.sdStpdir false false false 0)
        (withUnit .sd { at' 1 7 0 with stepDirection := .inward })).sel.stepDirection = .outward ∧
      (after (.sdStpdir false false false 1) (withUnit .sd (at' 1 7 0))).sel.stepDirection = .inward := by decide

/-- V-WR-2: the second sync byte is payload. -/
theorem test_sdWdata_payload :
    let t := after (.sdWdata 0xFB)
      (withUnit .sd { at' 1 0 0 with diskBuffer := some [0x00, 0x11], state := .writeData, stateCounter := 3,
                                     xferOffset := 1, xferRemaining := 255 })
    t.sel.diskBuffer = some [0x00, 0xFB] ∧ t.sel.xferRemaining = 254 ∧ t.sel.stateCounter = 3 := by decide

/-- V-WR-9: a data write with no write sequence faults after its update. -/
theorem test_sdWdata_out_of_sequence :
    let t := after (.sdWdata 0x00) (withUnit .sd (at' 1 0 0))
    t.fault = some (.internalConsistency .writeByte .windowOpen 1 0xEA00) ∧ t.sel.currentSector = 1 := by decide

theorem test_ddProm : (after (.ddProm 0xFF) (withUnit .dd (at' 1 0 0))).result = .byte 0xFF := by
  simp [after, exec, execDdProm, onController, whenLive, withUnit, ddPromRead, State.promByte, tc, finishByte]

/-- V-DD-8, third byte: the post-sync byte is discarded. -/
theorem test_ddWdata_post_sync :
    (after (.ddWdata 0xA1)
        (withUnit .dd { at' 1 0 0 with state := .writeLeadin, stateCounter := 3, xferRemaining := 512,
                                       leadinSync := true })).sel.state = .writeData := by decide

/-- V-DD-13: a mismatch returns before the sequence check. -/
theorem test_ddWdata_mismatch :
    let s := withUnit .dd { at' 1 0 3 with diskBuffer := some image }
    let t := after (.ddWdata 0x55) { s with c := { s.c with orderDouble := true } }
    t.fault = none ∧ t.result = .byte 0x00 ∧ t.sel.currentSector = 4 ∧ t.sel.state = .windowOpen := by decide

/-- V-DD-1, second write: the falling edge steps inward; no update. -/
theorem test_ddOrder_steps :
    let t := after (.ddOrder false 0 true false 1) (withUnit .dd { at' 1 5 0 with stepFlipFlop := true })
    t.sel.currentTrack = 6 ∧ t.sel.stepFlipFlop = false ∧ t.sel.state = .sectorScan ∧ t.c.selectedDrive = 1 := by decide

/-- V-DD-2 and P6 line 3: no one-hot bit is the sink; the unit selected before is the one stepped. -/
theorem test_ddOrder_selects :
    (after (.ddOrder false 0 false false 3) (withUnit .dd (at' 1 0 0))).c.selectedDrive = 0 ∧
      ((after (.ddOrder false 0 true false 2)
        (withUnit .dd { at' 1 7 0 with stepFlipFlop := true })).c.drive 1).currentTrack = 8 := by decide

/-- V-DD-4. -/
theorem test_ddNop :
    let t := after (.ddNop 0) (withUnit .dd (at' 1 0 2))
    t.sel.state = .windowOpen ∧ t.sel.currentSector = 3 ∧ t.fault = none := by decide

/-- V-DD-6: mux 2 is the probe. -/
theorem test_ddNop_probe : (after (.ddNop 2) (withUnit .dd (at' 1 0 2))).sel.state = .sectorScan := by decide

theorem test_ddRsf :
    (after (.ddRsf 1) (withUnit .dd (at' 1 0 0))).sel.sectorHoleDetected = false := by decide

/-- R162 to R165, R167: as `NOP` in every effect. -/
theorem test_dd_reserved_commands :
    let s := withUnit .dd { at' 1 0 9 with diskBuffer := some image }
    ∀ i ∈ [Instr.ddIntr2 4, .ddIntr3 4, .ddBody 4, .ddMotor 4, .ddReset 4],
      (after i s).result = .byte 0x41 ∧ (after i s).sel.state = .readData := by decide

/-- V-DD-7 with a short double-density image: the offset, whatever the image's length. -/
theorem test_ddWrt :
    let s := withUnit .dd { at' 1 5 3 with diskBuffer := some image, imageDouble := true }
    let t := after (.ddWrt 1) { s with c := { s.c with orderDouble := true } }
    t.sel.state = .writeLeadin ∧ t.sel.xferOffset = 27648 ∧ t.sel.xferRemaining = 512 := by decide

/-- V-DD-14. -/
theorem test_ddWrt_out_of_sequence :
    (after (.ddWrt 2) (withUnit .dd { at' 1 0 0 with state := .readEnd, stateCounter := 3 })).fault =
      some (.internalConsistency .beginWrite .readEnd 1 0xEB26) := by decide

/-- V-DD-5, V-F-4. -/
theorem test_ddUndef :
    let t := after (.ddUndef 1 0) (withUnit .dd (at' 1 0 2))
    t.fault = some (.undefinedCommand 0xEB18) ∧ t.sel.currentSector = 3 ∧ t.result = .none := by decide

/-! ### Drive operations and the host -/

/-- The table of 95_test_vectors.md 2.7. -/
theorem test_crcStep :
    crcStep 0x00 0x80 = 0x01 ∧ crcStep 0x00 0xFF = 0xFF ∧ crcStep 0xFF 0xFF = 0x00 ∧ crcStep 0x82 0x42 = 0x81 ∧
      crcStep 0x7F 0x00 = 0xFE := by decide

/-- The CRC of program P2's sector. -/
theorem test_crc_of_P2_sector : crcOf (image.take 256) = 0xB0 := by decide +kernel

/-- The table of 95_test_vectors.md 2.6, updates 1, 3 and 5. -/
theorem test_rotation :
    (Drive.updates tc 1 (at' 1 5 9)).currentSector = 0 ∧ (Drive.updates tc 1 (at' 1 5 9)).state = .windowOpen ∧
      (Drive.updates tc 3 (at' 1 5 9)).state = .windowClose ∧ (Drive.updates tc 3 (at' 1 5 9)).inWindow = true ∧
      (Drive.updates tc 5 (at' 1 5 9)).state = .sectorScan ∧ (Drive.updates tc 5 (at' 1 5 9)).syncDetected = true := by
  decide

/-- The table of 95_test_vectors.md 2.8. -/
theorem test_geometry :
    (at' 1 34 9).offset .sd 0 = 89344 ∧
      ({ at' 1 34 0 with diskBuffer := some [], imageDouble := true } : Drive).offset .dd 1 = 179200 ∧
      ({ at' 1 0 0 with diskBuffer := some [], imageDouble := false } : Drive).offset .dd 1 = 176640 := by decide

/-- W5. -/
theorem test_classify :
    classifyDouble 99999 = false ∧ classifyDouble 100000 = true ∧ classifyDouble 399999 = true ∧
      classifyDouble 400000 = false := by decide

/-- W9. -/
theorem test_blank_sizes :
    blankLength .singleSidedSingleDensity = 89600 ∧ blankLength .singleSidedDoubleDensity = 179200 ∧
      blankLength .doubleSidedDoubleDensity = 358400 := by decide

/-- V-H-6. -/
theorem test_unmount :
    let d : Drive := { at' 1 9 2 with diskBuffer := some [0x41], commitPending := true, state := .readData }
    (unmountDrive 1 (withUnit .sd d)).sel = { at' 1 9 2 with state := .readData } := rfl

/-- V-H-7: 6 seconds are more than 5; and 5 are not. -/
theorem test_motorPoll :
    let s := withUnit .sd (at' 1 0 0)
    let m := { s with c := { s.c with motorsRunning := true, lastMotorActivity := some 100 } }
    (pollMotors 106 m).c.motorsRunning = false ∧ (pollMotors 105 m).c.motorsRunning = true := by decide

/-- V-F-6. -/
theorem test_no_step_after_a_fault :
    exec (.rd 0x1234) { withUnit .sd (at' 1 0 0) with fault := some (.selectUnitZero 0xEB00) } =
      .fault (.halted (.selectUnitZero 0xEB00)) := rfl

/-- A placed word runs as the first instruction after reset, on the controller installed at reset. -/
theorem test_placed_word_runs_after_reset :
    ∃ t, step (State.reset.withFetchWord 16 0xEB01) = .next t ∧ t.c.selectedDrive = 1 := ⟨_, rfl, rfl⟩

/-- So does a word meant for the other controller. -/
theorem test_placed_dd_word_runs_after_reset :
    ∃ t, step (State.reset.withFetchWord 24 0x80EB18) = .next t ∧ t.fault = some (.undefinedCommand 0xEB18) :=
  ⟨_, rfl, rfl⟩

/-! ### Witnesses: for every obligation with hypotheses, states and operands that meet all of them

A witness is named after its obligation; where the statement has several clauses over one input, the witness has one
part for each, at the ends of the input's range. -/

/-- The states of the SD witnesses. -/
def sd1 (d : Drive) : State := withUnit .sd d

/-- The states of the DD witnesses. -/
def dd1 (d : Drive) : State := withUnit .dd d

/-- As `dd1`, with double density ordered. -/
def dd1Double (d : Drive) : State := { dd1 d with c := { (dd1 d).c with orderDouble := true } }

/-- A state in which a fault is recorded. -/
def faulted : State := { sd1 (at' 1 0 0) with fault := some (.selectUnitZero 0xEB00) }

/-- A state with an input queued. -/
def queued (e : Event) : State := { sd1 (at' 1 0 0) with pending := [e] }

theorem onSd (d : Drive) : OnSd (sd1 d) := ⟨rfl, rfl, show 1 < 4 by decide⟩

theorem onDd (d : Drive) : OnDd (dd1 d) := ⟨rfl, rfl, show 1 < 5 by decide⟩

theorem onDdDouble (d : Drive) : OnDd (dd1Double d) := ⟨rfl, rfl, show 1 < 5 by decide⟩

theorem image_length : image.length = 257 := by decide +kernel

theorem witness_DecodeOfEncodeIsIdentity :
    (Instr.rd 0xE7FF).wf .sd = true ∧ (Instr.rd 0xEC00).wf .dd = true ∧ (Instr.wrw 0xFFFF 0xFFFF).wf .sd = true ∧
      (Instr.sdSel true true true 3).wf .sd = true ∧ (Instr.ddUndef 15 7).wf .dd = true := by decide

theorem witness_StepRunsTheNextInput :
    (queued (.bus (.readByte 0))).pending = .bus (.readByte 0) :: [] ∧
      (queued (.host (.unmount 1))).pending = .host (.unmount 1) :: [] ∧ (sd1 (at' 1 0 0)).pending = [] :=
  ⟨rfl, rfl, rfl⟩

theorem witness_PlacedWordRunsNext :
    decodeTableWord 16 0xEB01 = some (.sdSel false false false 1) ∧ tableVariant 16 0xEB01 = .sd ∧
      decodeTableWord 24 0x80EB18 = some (.ddUndef 1 0) ∧ tableVariant 24 0x80EB18 = .dd ∧
      State.reset.c.variant = .sd ∧ State.reset.fault = none := by decide

theorem witness_ControllerRowIsItsByteRead :
    (Instr.sdProm 0).needsVariant ≠ none ∧ (Instr.ddUndef 15 7).needsVariant ≠ none ∧ inFloppy 0xE800 = true ∧
      inFloppy 0xEBFF = true := by decide

/-- A recorded fault, and a host move that is no reboot and takes a step from it. -/
theorem witness_NoStepAfterAFault :
    faulted.fault = some (.selectUnitZero 0xEB00) ∧
      (∀ v images clearRam, HostOp.unmount 1 ≠ .reboot v images clearRam) ∧
      ∃ t, hostStep (.unmount 1) faulted = .next t := ⟨rfl, nofun, _, rfl⟩

/-- One instruction that faults, and one read that does not. -/
theorem witness_LiveOperationsAnswer :
    (sd1 (at' 1 0 0)).fault = none ∧
      (∃ t, exec (.sdSel false false false 0) (sd1 (at' 1 0 0)) = .next t ∧ t.fault ≠ none) ∧
      (∃ t, exec (.sdNop false false false 0) (sd1 (at' 1 0 0)) = .next t ∧ t.fault = none) :=
  ⟨rfl, ⟨_, rfl, by decide⟩, ⟨_, rfl, rfl⟩⟩

theorem witness_BusOperationsKeepFixedState :
    ∃ t, exec (.sdSel true true true 3) (sd1 (at' 1 0 0)) = .next t := ⟨_, rfl⟩

/-- Unit 3 while unit 2 is selected after unit 1. -/
theorem witness_UnselectedDrivesAreUntouched :
    ∃ t, exec (.sdSel false false false 2) (sd1 (at' 1 0 0)) = .next t ∧ 3 ≠ (sd1 (at' 1 0 0)).c.selectedDrive ∧
      3 ≠ t.c.selectedDrive := ⟨_, rfl, by decide, by decide⟩

theorem witness_ImagesKeepLengthAndProtection :
    let s := sd1 { at' 1 0 0 with diskBuffer := some image, writeProtect := true, state := .writeData }
    (∃ t, exec (.sdWdata 0x55) s = .next t) ∧ (s.c.drive 1).writeProtect = true := ⟨⟨_, rfl⟩, rfl⟩

/-- Two states that differ, one live pair and one faulted pair. -/
theorem witness_MotorStateIsAdvisory :
    let s := sd1 (at' 1 0 0)
    let s' := { s with c := { s.c with motorsRunning := true, lastMotorActivity := some 7 } }
    SameButMotors s s' ∧ s.c.motorsRunning ≠ s'.c.motorsRunning ∧
      (∃ t, exec (.sdNop false false false 0) s = .next t) ∧
      SameButMotors faulted { faulted with c := { faulted.c with motorsRunning := true } } ∧
      exec (.sdNop false false false 0) faulted = .fault (.halted (.selectUnitZero 0xEB00)) :=
  ⟨rfl, by decide, ⟨_, rfl⟩, rfl, rfl⟩

theorem drive_inv (u t k : Nat) (v : Variant) (ht : t ≤ 34) (hk : k ≤ 9) : Drive.Inv tc v u false (at' u t k) :=
  ⟨rfl, ht, hk, fun _ => rfl, fun _ => rfl, rfl, nofun, by simp [at', Drive.powerOn], by simp [at', Drive.powerOn],
    by simp [at', Drive.powerOn]⟩

theorem queued_inv (e : Event) : (queued e).Inv where
  ram := rfl
  flags := rfl
  ctl :=
    { nDrives := rfl
      selected := show 1 ≤ 3 by decide
      drive := by
        intro u d h
        have hu : readOnlyOf (queued e).readOnlyConfig u = false := by
          simp only [queued, sd1, withUnit, readOnlyOf]
          rcases u with _ | _ | _ | _ | _ | u <;> rfl
        rw [hu]
        rcases u with _ | _ | _ | _ | u
        · cases h; exact drive_inv 0 0 0 _ (by decide) (by decide)
        · cases h; exact drive_inv 1 0 0 _ (by decide) (by decide)
        · cases h; exact drive_inv 2 3 4 _ (by decide) (by decide)
        · cases h; exact drive_inv 3 5 5 _ (by decide) (by decide)
        · cases h
      sdOrder := fun _ => ⟨rfl, rfl⟩
      rom := rfl
      motors := nofun }

/-- A step of the CPU loop and one of the host, from states that meet the invariant. -/
theorem witness_StepKeepsInvariant :
    ((queued (.bus (.readByte 0xEB50))).Inv ∧ ∃ t, step (queued (.bus (.readByte 0xEB50))) = .next t) ∧
      ((queued (.host (.mount 3 ⟨[], "a"⟩))).Inv ∧ ∃ t, step (queued (.host (.mount 3 ⟨[], "a"⟩))) = .next t) :=
  ⟨⟨queued_inv _, _, rfl⟩, ⟨queued_inv _, _, rfl⟩⟩

theorem witness_ResetValues :
    (∃ d, State.reset.c.drives[0]? = some d) ∧ (∃ d, State.reset.c.drives[3]? = some d) := ⟨⟨_, rfl⟩, ⟨_, rfl⟩⟩

theorem witness_ReadOutsideFloppyHasNoEffect :
    (sd1 (at' 1 0 0)).fault = none ∧
      (∀ a ∈ [0x0000#16, 0xE7FF#16, 0xEC00#16, 0xEFFF#16, 0xFC00#16, 0xFFFF#16],
        inFloppy a = false ∧ route tc a = .ram) ∧
      (∀ a ∈ [0xF000#16, 0xF7FF#16], inFloppy a = false ∧ route tc a = .firmware) ∧
      (∀ a ∈ [0xF800#16, 0xFBFF#16], inFloppy a = false ∧ route tc a = .display) := by
  refine ⟨rfl, ?_, ?_, ?_⟩ <;> simp [inFloppy, route, routeOutside, tc]

theorem witness_ByteWriteGoesWhereItsRegionSays :
    (sd1 (at' 1 0 0)).fault = none ∧ (sd1 (at' 1 0 0)).ram.wf = true ∧ route tc 0xE7FF = .ram ∧
      route tc 0xE800 = .floppy ∧ route tc 0xEBFF = .floppy ∧ route tc 0xF000 = .firmware ∧
      route tc 0xF800 = .display := by decide

/-- A first byte that faults, a second byte that faults, and two bytes that answer. -/
theorem witness_WordReadIsTwoByteReads :
    (∃ s1, exec (.rd 0xEB00) (sd1 (at' 1 0 0)) = .next s1 ∧ s1.fault ≠ none) ∧
      (∃ s1 s2, exec (.rd 0xEAFF) (sd1 { at' 1 0 0 with state := .writeLeadin, stateCounter := 3 }) = .next s1 ∧
        s1.fault = none ∧ exec (.rd 0xEB00) s1 = .next s2 ∧ s2.fault ≠ none) ∧
      (∃ s1 s2 lo hi, exec (.rd 0x2000) (sd1 (at' 1 0 0)) = .next s1 ∧ s1.fault = none ∧
        exec (.rd 0x2001) s1 = .next s2 ∧ s2.fault = none ∧ s1.result = .byte lo ∧ s2.result = .byte hi) ∧
      (∃ s1 s2 lo hi, exec (.rd 0xFFFF) (sd1 (at' 1 0 0)) = .next s1 ∧ s1.fault = none ∧
        exec (.rd 0xFFFF) s1 = .next s2 ∧ s2.fault = none ∧ s1.result = .byte lo ∧ s2.result = .byte hi) :=
  ⟨⟨_, rfl, by decide⟩, ⟨_, _, rfl, rfl, rfl, by decide⟩, ⟨_, _, _, _, rfl, rfl, rfl, rfl, rfl, rfl⟩,
    ⟨_, _, _, _, rfl, rfl, rfl, rfl, rfl, rfl⟩⟩

theorem witness_WordReadOutsideFloppyCompletes :
    (sd1 (at' 1 0 0)).fault = none ∧
      ∀ a ∈ [0xE7FE#16, 0xEC00#16, 0xFFFF#16],
        inFloppy a = false ∧ inFloppy (second a) = false ∧ route tc a = .ram ∧ route tc (second a) = .ram := by
  refine ⟨rfl, ?_⟩
  simp [inFloppy, second, route, routeOutside, tc]

theorem witness_WordWriteIsTwoByteWrites :
    (sd1 (at' 1 0 0)).fault = none ∧ (sd1 (at' 1 0 0)).ram.wf = true ∧ route tc 0xFFFE = .ram ∧
      route tc (second 0xFFFE) = .ram ∧ route tc (second 0xFFFF) = .ram ∧ route tc (second 0xE7FF) = .floppy := by
  decide

theorem witness_SdPromReadsReturnTheRomByte :
    (sd1 (at' 1 0 0)).fault = none ∧ (sd1 (at' 1 0 0)).c.variant = .sd := ⟨rfl, rfl⟩

/-- With `D` set: no disk, a mounted image, inside a read sequence, at its CRC byte. -/
theorem witness_SdNoOpCommandsComplete :
    ∀ d ∈ [at' 1 0 0, { at' 1 0 9 with diskBuffer := some [0x41] },
        { at' 1 0 0 with diskBuffer := some [0x41], state := .readData, stateCounter := 3, xferOffset := 0 },
        { at' 1 0 0 with state := .readCrc, stateCounter := 3 }],
      OnSd (sd1 d) ∧ readAccepts (envOf (sd1 d)) (updated false (sd1 d)) = true :=
  fun d hd => ⟨onSd d, (show ∀ d ∈ [at' 1 0 0, { at' 1 0 9 with diskBuffer := some [0x41] },
        { at' 1 0 0 with diskBuffer := some [0x41], state := .readData, stateCounter := 3, xferOffset := 0 },
        { at' 1 0 0 with state := .readCrc, stateCounter := 3 }],
      readAccepts (envOf (sd1 d)) (updated false (sd1 d)) = true by decide) d hd⟩

theorem witness_SdRsfClearsTheSectorFlag :
    OnSd (sd1 (at' 1 0 0)) ∧ readAccepts (envOf (sd1 (at' 1 0 0))) (updated true (sd1 (at' 1 0 0))) = true :=
  ⟨onSd _, by decide⟩

/-- The hypotheses hold for the drive the statement names; it is given by an equation. Both directions, on the edge and
off it, are states of the form below. -/
theorem witness_SdStpffMovesTheHeadOnTheFallingEdge :
    ∀ track ∈ [0, 34], ∀ way ∈ [StepDirection.inward, .outward], ∀ latch ∈ [false, true],
      OnSd (sd1 { at' 1 track 0 with stepDirection := way, stepFlipFlop := latch }) ∧
        readAccepts (envOf (sd1 { at' 1 track 0 with stepDirection := way, stepFlipFlop := latch }))
            { updated false (sd1 { at' 1 track 0 with stepDirection := way, stepFlipFlop := latch }) with
              stepFlipFlop := false
              currentTrack :=
                if latch = true ∧ false = false then (if way = .inward then min (track + 1) 34 else track - 1)
                else track } = true :=
  fun _ _ _ _ _ _ => ⟨onSd _, rfl⟩

theorem witness_SdStpdirLatchesTheDirection :
    OnSd (sd1 (at' 1 0 0)) ∧ readAccepts (envOf (sd1 (at' 1 0 0))) (updated true (sd1 (at' 1 0 0))) = true :=
  ⟨onSd _, by decide⟩

/-- The ends of the range of `p`, the same unit selected again, and a drive selected after whose data read faults. -/
theorem witness_SdSelSelectsTheUnit :
    (OnSd (sd1 (at' 1 0 0)) ∧ (sd1 (at' 1 0 0)).c.drives.length = 4 ∧ (1#2 : BitVec 2) ≠ 0#2 ∧ (3#2 : BitVec 2) ≠ 0#2 ∧
      readAccepts (envOf (sd1 (at' 1 0 0))) ((sd1 (at' 1 0 0)).c.drive (3#2).toNat) = true) ∧
      (updated false (sd1 { at' 1 0 0 with state := .readEnd, stateCounter := 3 })).state ∈
        [DriveState.readEnd, .writeLeadin, .writeData, .writeCrc, .writeEnd] :=
  ⟨⟨onSd _, rfl, by decide, by decide, by decide⟩, by decide⟩

/-- The same unit selected again, with its next byte the first past the image, at the start of a read sequence and inside
one. -/
theorem witness_SdSelSelectsTheUnit_bounds :
    (let after := updated false (sd1 { at' 1 0 0 with state := .windowClose, diskBuffer := some [] })
     isScan after.state = true ∧ after.diskBuffer = some [] ∧
       ([] : List Byte).length ≤ (after.currentTrack * 10 + after.currentSector) * 256) ∧
    (let after :=
       updated false
         (sd1 { at' 1 0 0 with state := .readData, stateCounter := 1, xferOffset := 1, diskBuffer := some [0x00] })
     after.state = .readData ∧ after.diskBuffer = some [0x00] ∧ [(0x00 : Byte)].length ≤ after.xferOffset) := by decide

theorem witness_SdSelZeroFaults : OnSd (sd1 (at' 1 34 9)) := onSd _

theorem witness_SelectingTwiceSelectsOnce :
    (sd1 (at' 1 0 0)).c.variant = .sd ∧ (3#2 : BitVec 2) ≠ 0#2 ∧
      ∃ s1 s2, exec (.sdSel false false false 3) (sd1 (at' 1 0 0)) = .next s1 ∧
        exec (.sdSel true false true 3) s1 = .next s2 := ⟨rfl, by decide, _, _, rfl, rfl⟩

theorem witness_SdWrtBeginsTheWriteSequence :
    ∀ st ∈ [DriveState.sectorScan, .windowOpen, .windowClose],
      OnSd (sd1 { at' 1 34 9 with state := st }) ∧ isScan (updated false (sd1 { at' 1 34 9 with state := st })).state = true :=
  fun st hst => ⟨onSd _, (show ∀ st ∈ [DriveState.sectorScan, .windowOpen, .windowClose],
    isScan (updated false (sd1 { at' 1 34 9 with state := st })).state = true by decide) st hst⟩

/-- A transfer state that its update leaves, by the escape counter at 0, and one that it does not. -/
theorem witness_SdWrtFaultsOutOfSequence :
    OnSd (sd1 { at' 1 0 0 with state := .writeEnd, stateCounter := 1 }) ∧
      isScan (updated false (sd1 { at' 1 0 0 with state := .writeEnd, stateCounter := 1 })).state = false ∧
      isScan (updated false (sd1 { at' 1 0 0 with state := .writeEnd, stateCounter := 0 })).state = true :=
  ⟨onSd _, by decide, by decide⟩

/-- Each accepting command form, on either controller, at each of the five states. -/
theorem witness_ReadOutOfSequenceFaults :
    ∀ st ∈ [DriveState.readEnd, .writeLeadin, .writeData, .writeCrc, .writeEnd],
      (∀ i ∈ [Instr.sdIntr true true true 3, .sdNop true true true 3, .sdReset true true true 3],
        ReadsDataFrom (sd1 { at' 1 0 0 with state := st, stateCounter := 1 }) true i
          { at' 1 0 0 with state := st, stateCounter := 0 }) ∧
      ReadsDataFrom (sd1 { at' 1 0 0 with state := st, stateCounter := 1 }) false (.sdRsf true true false 0)
        { at' 1 0 0 with state := st, stateCounter := 0 } ∧
      ReadsDataFrom (sd1 { at' 1 0 0 with state := st, stateCounter := 1, stepFlipFlop := true }) false
        (.sdStpff true true false 0) { at' 1 0 0 with state := st, stateCounter := 0 } ∧
      ReadsDataFrom (sd1 { at' 1 0 0 with state := st, stateCounter := 1 }) false (.sdStpdir true true false 1)
        { at' 1 0 0 with state := st, stateCounter := 0, stepDirection := .inward } ∧
      (∀ i ∈ [Instr.ddNop 4, .ddIntr2 4, .ddIntr3 4, .ddBody 4, .ddMotor 4, .ddReset 4, .ddRsf 4],
        ReadsDataFrom (dd1 { at' 1 0 0 with state := st, stateCounter := 1 }) false i
          { at' 1 0 0 with state := st, stateCounter := 0 }) := by
  intro st hst
  fin_cases hst <;>
    (refine ⟨?_, .inl ⟨rfl, true, 0, by decide⟩, .inl ⟨rfl, true, 0, by decide⟩, .inl ⟨rfl, true, 1, by decide⟩, ?_⟩
     · intro i hi; exact .inl ⟨rfl, true, 3, by revert i; decide⟩
     · intro i hi; exact .inr ⟨rfl, rfl, by revert i; decide⟩)

/-- The first byte past the image, at the start of a sequence and inside one, on either controller. -/
theorem witness_ReadBeyondTheImageFaults :
    (let s := sd1 { at' 1 0 1 with state := .windowClose, diskBuffer := some [0x00] }
     ReadsDataFrom s false (.sdNop false true false 0) (updated false s) ∧
       (updated false s).diskBuffer = some [0x00] ∧ isScan (updated false s).state = true ∧
       [(0x00 : Byte)].length ≤ ((updated false s).currentTrack * 10 + (updated false s).currentSector) * 256) ∧
    (let s := sd1 { at' 1 0 0 with state := .readData, stateCounter := 1, xferOffset := 1, diskBuffer := some [0x00] }
     ReadsDataFrom s false (.sdNop false true false 0) (updated false s) ∧ (updated false s).state = .readData ∧
       [(0x00 : Byte)].length ≤ (updated false s).xferOffset) ∧
    (let s := dd1 { at' 1 34 9 with state := .windowOpen, diskBuffer := some [0x00], imageDouble := true }
     ReadsDataFrom s false (.ddNop 4) (updated false s) ∧ (updated false s).diskBuffer = some [0x00] ∧
       isScan (updated false s).state = true ∧ (updated false s).imageDouble = true) :=
  ⟨⟨.inl ⟨rfl, false, 0, by simp⟩, rfl, rfl, by decide⟩, ⟨.inl ⟨rfl, false, 0, by simp⟩, rfl, by decide⟩,
    ⟨.inr ⟨rfl, rfl, by simp⟩, rfl, rfl, rfl⟩⟩

/-- Padding, the sync byte and the post-sync byte, on either controller. -/
theorem witness_DataWriteLeadin :
    (∀ v ∈ [0x00#8, 0xFB#8], ∀ sync ∈ [false, true],
      IsDataWrite (sd1 { at' 1 0 0 with state := .writeLeadin, stateCounter := 1, leadinSync := sync }) v (.sdWdata v) ∧
        (updated false (sd1 { at' 1 0 0 with state := .writeLeadin, stateCounter := 1, leadinSync := sync })).state =
          .writeLeadin) ∧
      (∀ sync ∈ [false, true],
        IsDataWrite (dd1Double { at' 1 0 0 with state := .writeLeadin, stateCounter := 1, leadinSync := sync }) 0xFB
            (.ddWdata 0xFB) ∧
          (updated false (dd1Double { at' 1 0 0 with state := .writeLeadin, stateCounter := 1,
                                                      leadinSync := sync })).state = .writeLeadin) ∧
      (sd1 (at' 1 0 0)).SelOk ∧ (dd1Double (at' 1 0 0)).SelOk :=
  ⟨fun _ _ _ _ => ⟨.inl ⟨rfl, rfl⟩, rfl⟩, fun _ _ => ⟨.inr ⟨rfl, rfl, rfl⟩, rfl⟩, (onSd _).sel, (onDdDouble _).sel⟩

/-- The last byte of an image, a protected disk and no disk. -/
theorem witness_DataWritePayload :
    (let s := sd1 { at' 1 0 0 with state := .writeData, stateCounter := 1, xferOffset := 256, xferRemaining := 1,
                                   diskBuffer := some image }
     IsDataWrite s 0x99 (.sdWdata 0x99) ∧ (updated false s).state = .writeData ∧
       ∀ buf, (updated false s).diskBuffer = some buf → (updated false s).writeProtect = false →
         (updated false s).xferOffset < buf.length) ∧
    (let s := dd1 { at' 1 0 0 with state := .writeData, stateCounter := 1, xferOffset := 999, xferRemaining := 2,
                                   diskBuffer := some image, writeProtect := true }
     IsDataWrite s 0x99 (.ddWdata 0x99) ∧ (updated false s).state = .writeData ∧ (updated false s).writeProtect = true) ∧
    (let s := dd1 { at' 1 0 0 with state := .writeData, stateCounter := 1, xferOffset := 999, xferRemaining := 2 }
     IsDataWrite s 0x99 (.ddWdata 0x99) ∧ (updated false s).state = .writeData ∧ (updated false s).diskBuffer = none) :=
  ⟨⟨.inl ⟨rfl, rfl⟩, rfl, fun buf h _ => by cases h; rw [image_length]; decide⟩, ⟨.inr ⟨rfl, rfl, rfl⟩, rfl, rfl⟩,
    ⟨.inr ⟨rfl, rfl, rfl⟩, rfl, rfl⟩⟩

/-- No disk, a pending write and an auto-committed one. -/
theorem witness_DataWriteCrc :
    (∀ buffer ∈ [none, some image], ∀ protect ∈ [false, true], ∀ auto ∈ [false, true],
      IsDataWrite (sd1 { at' 1 0 0 with state := .writeCrc, stateCounter := 1, diskBuffer := buffer,
                                        writeProtect := protect, autoCommit := auto }) 0x00 (.sdWdata 0x00) ∧
        updated false (sd1 { at' 1 0 0 with state := .writeCrc, stateCounter := 1, diskBuffer := buffer,
                                            writeProtect := protect, autoCommit := auto }) =
          { at' 1 0 0 with state := .writeCrc, diskBuffer := buffer, writeProtect := protect, autoCommit := auto }) ∧
      IsDataWrite (dd1 { at' 1 0 0 with state := .writeCrc, stateCounter := 1 }) 0x00 (.ddWdata 0x00) ∧
      (updated false (dd1 { at' 1 0 0 with state := .writeCrc, stateCounter := 1 })).state = .writeCrc :=
  ⟨fun _ _ _ _ _ _ => ⟨.inl ⟨rfl, rfl⟩, rfl⟩, .inr ⟨rfl, rfl, rfl⟩, rfl⟩

/-- Every state that accepts no data write after the update, and a payload byte at the image's length. -/
theorem witness_DataWriteFaults :
    (∀ st ∈ [DriveState.sectorScan, .windowOpen, .windowClose, .readData, .readCrc, .readEnd, .writeEnd],
      IsDataWrite (sd1 { at' 1 0 0 with state := st, stateCounter := 1 }) 0x00 (.sdWdata 0x00) ∧
        IsDataWrite (dd1 { at' 1 0 0 with state := st, stateCounter := 1 }) 0x00 (.ddWdata 0x00)) ∧
      (∀ st ∈ [DriveState.sectorScan, .windowOpen, .windowClose, .readData, .readCrc, .readEnd, .writeEnd],
        (updated false (sd1 { at' 1 0 0 with state := st, stateCounter := 1 })).state ∉
          [DriveState.writeLeadin, .writeData, .writeCrc]) ∧
      (let s := sd1 { at' 1 0 0 with state := .writeData, stateCounter := 1, xferOffset := 257,
                                     diskBuffer := some image }
       IsDataWrite s 0x00 (.sdWdata 0x00) ∧ (updated false s).state = .writeData ∧
         (updated false s).diskBuffer = some image ∧ (updated false s).writeProtect = false ∧
         image.length ≤ (updated false s).xferOffset) :=
  ⟨fun _ _ => ⟨.inl ⟨rfl, rfl⟩, .inr ⟨rfl, rfl, rfl⟩⟩, by decide,
    ⟨.inl ⟨rfl, rfl⟩, rfl, rfl, rfl, by rw [image_length]; decide⟩⟩

theorem witness_DdDensityMismatchFailsHarmlessly :
    let s := dd1Double { at' 1 0 0 with diskBuffer := some image, state := .readEnd }
    OnDd s ∧ s.c.orderDouble = true ∧ s.sel.diskBuffer ≠ none ∧ s.sel.imageDouble = false :=
  ⟨onDdDouble _, rfl, nofun, rfl⟩

theorem witness_DdPromReadReturnsTheRomByte :
    (dd1 (at' 1 0 0)).fault = none ∧ (dd1 (at' 1 0 0)).c.variant = .dd := ⟨rfl, rfl⟩

/-- With and without the write gate, whose direction bit is ignored. -/
theorem witness_DdOrderSetsFieldsStepsAndSelects :
    ∀ gate ∈ [false, true], OnDd (dd1 { at' 1 34 0 with writeReady := gate, stepFlipFlop := true }) :=
  fun _ _ => onDd _

/-- With the data mux: no disk, a mounted image, inside a read sequence. -/
theorem witness_DdNoOpCommandsComplete :
    (∀ d : Drive, OnDd (dd1 d)) ∧
      ∀ d ∈ [at' 1 34 9, { at' 1 34 0 with diskBuffer := some [0x41], state := .readData, stateCounter := 3 },
          { at' 1 0 9 with diskBuffer := some [0x41] }],
        readAccepts (envOf (dd1 d)) (updated (4#4 == 2#4) (dd1 d)) = true := ⟨onDd, by decide⟩

theorem witness_DdRsfClearsTheSectorFlag :
    OnDd (dd1 (at' 1 0 0)) ∧ readAccepts (envOf (dd1 (at' 1 0 0))) (updated (4#4 == 2#4) (dd1 (at' 1 0 0))) = true :=
  ⟨onDd _, by decide⟩

/-- Single density ordered, double density ordered with a double-density image, and a transfer state (V-DD-14). -/
theorem witness_DdWrtBeginsTheWriteSequence :
    (OnDd (dd1 (at' 1 0 0)) ∧ (dd1 (at' 1 0 0)).c.orderDouble ≠ true ∧
      isScan (updated (1#4 == 2#4) (dd1 (at' 1 0 0))).state = true) ∧
    (let s := dd1Double { at' 1 34 9 with diskBuffer := some image, imageDouble := true }
     OnDd s ∧ s.c.orderDouble = true ∧ s.sel.diskBuffer ≠ none ∧ s.sel.imageDouble = true ∧
       isScan (updated (4#4 == 2#4) s).state = true) ∧
    (let s := dd1 { at' 1 0 0 with state := .readEnd, stateCounter := 1 }
     OnDd s ∧ s.c.orderDouble ≠ true ∧ isScan (updated (2#4 == 2#4) s).state = false) :=
  ⟨⟨onDd _, nofun, rfl⟩, ⟨onDdDouble _, rfl, nofun, rfl, rfl⟩, ⟨onDd _, nofun, rfl⟩⟩

theorem witness_DdUndefinedCommandFaults : OnDd (dd1 (at' 1 34 9)) := onDd _

/-- Both ends of the units, on DD; the tracks at both clamps. -/
theorem witness_StepPseudoOpsMoveOneTrack :
    OnSd (sd1 (at' 1 0 0)) ∧ OnSd (sd1 (at' 1 34 0)) ∧ OnDd (dd1 (at' 1 34 0)) ∧
      (dd1 (at' 1 34 0)).c.selectedDrive = 1 ∧ (dd1 (at' 1 34 0)).sel.writeReady = false ∧
      (let s := (dd1 (at' 1 0 0)).select 4
       OnDd s ∧ 1 ≤ s.c.selectedDrive ∧ s.c.selectedDrive ≤ 4 ∧ s.sel.writeReady = false) :=
  ⟨onSd _, onSd _, onDd _, rfl, rfl, ⟨rfl, rfl, show 4 < 5 by decide⟩, by decide, by decide, rfl⟩

/-- Each clause has drives in its state; in `SECTOR_SCAN` a probe and none, armed at both ends of the count and
unarmed. -/
theorem witness_UpdateFollowsTheStateTable :
    (at' 1 0 9).state = .sectorScan ∧ (at' 1 0 9).jitterArmed = false ∧
      ({ at' 1 0 9 with jitterArmed := true, jitterCount := 3 } : Drive).state = .sectorScan ∧
      ({ at' 1 0 9 with state := .windowOpen, stateCounter := 1 } : Drive).state = .windowOpen ∧
      ({ at' 1 0 9 with state := .windowClose } : Drive).state = .windowClose ∧
      ∀ st ∈ [DriveState.readData, .readCrc, .readEnd, .writeLeadin, .writeData, .writeCrc, .writeEnd],
        isScan ({ at' 1 0 9 with state := st } : Drive).state = false := by decide

/-- The least and the greatest delay, at the last probe that stays and at the one that advances. -/
theorem witness_JitterDelaysTheAdvance :
    (at' 1 0 9).state = .sectorScan ∧ (at' 1 0 9).jitterArmed = false ∧
      (0 = 0 % (tc.jitterMax + 1) ∧ ([] : List Nat).length ≤ 0 ∧ [5].length = 0 + 1) ∧
      (3 = 7 % (tc.jitterMax + 1) ∧ [1, 2, 3].length ≤ 3 ∧ [1, 2, 3, 4].length = 3 + 1) := by decide

theorem witness_SectorPeriod :
    (at' 1 0 9).state = .sectorScan ∧ tc.openCount + tc.closeCount + 3 = 5 ∧ 0 < 4 ∧ 4 < 5 ∧ 2 ≤ tc.openCount + 1 := by
  decide

/-- What a drive operation reads, on either controller. -/
def envTc (v : Variant) (side : BitVec 1) : DriveEnv where
  cfg := tc
  variant := v
  orderDouble := false
  orderSide := side
  autoCommit := false
  persistOk := true

/-- A single-density sector, and a double-density one that fills its image. -/
theorem witness_ReadSequenceReturnsSectorAndCrc :
    (let d : Drive := { at' 1 0 0 with diskBuffer := some image }
     isScan d.state = true ∧ d.diskBuffer = some image ∧
       d.offset (envTc .sd 0).variant (envTc .sd 0).orderSide + d.sectorSize (envTc .sd 0).variant ≤ image.length) ∧
    (let buf : List Byte := List.replicate 512 0x5A
     let d : Drive := { at' 1 0 0 with diskBuffer := some buf, imageDouble := true, state := .windowClose }
     isScan d.state = true ∧ d.diskBuffer = some buf ∧
       d.offset (envTc .dd 0).variant (envTc .dd 0).orderSide + d.sectorSize (envTc .dd 0).variant ≤ buf.length) := by
  refine ⟨⟨rfl, rfl, ?_⟩, ⟨rfl, rfl, ?_⟩⟩
  · rw [image_length]; decide
  · show _ ≤ (List.replicate 512 _).length
    rw [List.length_replicate]; decide

theorem witness_ReadSequenceWithNoDisk :
    isScan (at' 1 34 9).state = true ∧ (at' 1 34 9).diskBuffer = none := ⟨rfl, rfl⟩

theorem witness_SdSectorReadByDispatches :
    let s := sd1 { at' 1 0 9 with diskBuffer := some image }
    OnSd s ∧ isScan (updated false s).state = true ∧ s.sel.diskBuffer = some image ∧
      ((updated false s).currentTrack * 10 + (updated false s).currentSector) * 256 + 256 ≤ image.length :=
  ⟨onSd _, rfl, rfl, by rw [image_length]; decide⟩

theorem witness_SdWriteReadRoundTrip :
    let d : Drive := { at' 1 0 0 with diskBuffer := some image }
    let e : Drive := { at' 2 0 0 with state := .windowOpen, diskBuffer := some image }
    (envTc .sd 0).variant = .sd ∧ isScan d.state = true ∧ d.diskBuffer = some image ∧ d.writeProtect = false ∧
      (List.replicate 256 (0x5A : Byte)).length = 256 ∧ d.offset .sd (envTc .sd 0).orderSide + 256 ≤ image.length ∧
      isScan e.state = true ∧ e.currentTrack = d.currentTrack ∧ e.currentSector = d.currentSector :=
  ⟨rfl, rfl, rfl, rfl, List.length_replicate .., by rw [image_length]; decide, rfl, rfl, rfl⟩

/-- The two ends of an image, on both sides. -/
theorem witness_DdSectorsAreDisjointAndInside :
    OnDisk (at' 1 0 0) ∧ OnDisk (at' 1 34 9) ∧ (at' 1 0 0).sectorSize .dd = (at' 1 34 9).sectorSize .dd ∧
      (0#1 : BitVec 1) ≠ 1#1 ∧ (at' 1 0 0).currentTrack ≠ (at' 1 34 9).currentTrack :=
  ⟨⟨by decide, by decide⟩, ⟨by decide, by decide⟩, rfl, by decide, by decide⟩

/-- A drive with no disk, and one with. -/
theorem witness_StatusBytesCarryTheSectorFlag :
    (at' 1 0 0).diskBuffer = none ∧ ({ at' 1 0 0 with diskBuffer := some [0x41] } : Drive).diskBuffer ≠ none := by decide

/-- The first and the last unit of either controller. -/
theorem witness_MountResetsOneDrive :
    (∀ u ∈ [1, 3], 1 ≤ u ∧ u ≤ numUnits (sd1 (at' 1 0 0)).c.variant ∧ u < (sd1 (at' 1 0 0)).c.drives.length) ∧
      (∀ u ∈ [1, 4], 1 ≤ u ∧ u ≤ numUnits (dd1 (at' 1 0 0)).c.variant ∧ u < (dd1 (at' 1 0 0)).c.drives.length) := by
  decide

/-- Pending data, and none. -/
theorem witness_CommitClearsPendingOnSuccess :
    (let s := sd1 { at' 1 0 0 with diskBuffer := some image, commitPending := true }
     1 ≤ numUnits s.c.variant ∧ 1 < s.c.drives.length ∧ (s.c.drive 1).commitPending = true ∧
       (s.c.drive 1).diskBuffer = some image) ∧
    (0 ≤ numUnits (sd1 (at' 1 0 0)).c.variant ∧ 0 < (sd1 (at' 1 0 0)).c.drives.length ∧
      ((sd1 (at' 1 0 0)).c.drive 0).commitPending = false) :=
  ⟨⟨by decide, by decide, rfl, rfl⟩, by decide, by decide, rfl⟩

theorem witness_FailedLoadAndUnmountLeaveNoDisk :
    ∀ u ∈ [1, 3], 1 ≤ u ∧ u ≤ numUnits (sd1 (at' 1 0 0)).c.variant ∧ u < (sd1 (at' 1 0 0)).c.drives.length := by
  decide

/-- Drives of the rebooted block, and an image for the first unit. -/
theorem witness_RebootRebuildsTheController :
    ∃ t, hostStep (.reboot .dd [some ⟨[0x5A], "a"⟩] true) faulted = .next t ∧ (∃ d, t.c.drives[0]? = some d) ∧
      (∃ d, t.c.drives[1]? = some d) ∧ ∃ d, t.c.drives[4]? = some d :=
  ⟨_, rfl, ⟨_, rfl⟩, ⟨_, rfl⟩, ⟨_, rfl⟩⟩

theorem witness_MotorPollIsATimeout :
    (after (.sdNop false false false 0) (sd1 (at' 1 0 0))).c.lastMotorActivity = some (Config.hostTime 1) := rfl

theorem witness_ConfigurationTakesEffect :
    ∀ u ∈ [0, 3], u ≤ numUnits (sd1 (at' 1 0 0)).c.variant ∧ u < (sd1 (at' 1 0 0)).c.drives.length ∧
      u < (sd1 (at' 1 0 0)).readOnlyConfig.length := by decide

end Sys2Proof.Tests
end

section
/-! What one step does, by the oldest queued input (assumption 7). -/

namespace Sys2Proof.Machine

variable {s : State} {rest : List Event}

theorem step_of_pending_bus {op : BusOp} (h : s.pending = .bus op :: rest) :
    step s = exec (decodeOp s.c.variant op) { s with pending := rest } := by
  simp only [step, h]

theorem step_of_pending_host {m : HostOp} (h : s.pending = .host m :: rest) :
    step s = hostStep m { s with pending := rest } := by
  simp only [step, h]

theorem step_of_pending_nil (h : s.pending = []) : step s = .refused .noPendingOperation := by
  simp only [step, h]

end Sys2Proof.Machine

namespace Sys2Proof.Proofs.Scope
open Sys2Proof Sys2Proof.Machine

/-- Settles O4: one equation of the step for each shape of the input queue. -/
theorem stepRunsTheNextInput : Obligations.StepRunsTheNextInput := by
  intro s rest
  exact ⟨fun _ => step_of_pending_bus, fun _ => step_of_pending_host, step_of_pending_nil⟩

end Sys2Proof.Proofs.Scope
end

section
/-! The fields of an address that was put together from them (30_encoding.md R82 to R88, R95). -/

namespace Sys2Proof

@[simp] theorem params_pageAddr (page q : Byte) : params (pageAddr page q) = q := by
  rw [params, pageAddr, BitVec.extractLsb'_append_eq_of_add_le (by decide), BitVec.extractLsb'_eq_self]

@[simp] theorem opType_pageAddr (page q : Byte) : opType (pageAddr page q) = page.extractLsb' 0 2 := by
  rw [opType, pageAddr, BitVec.extractLsb'_append_eq_of_le (by decide)]

theorem toNat_pageAddr (page q : Byte) : (pageAddr page q).toNat = page.toNat * 256 + q.toNat := by
  rw [pageAddr, BitVec.toNat_append, ← Nat.shiftLeft_add_eq_or_of_lt q.isLt, Nat.shiftLeft_eq]

theorem inFloppy_pageAddr {page q : Byte} (hlo : 0xE8 ≤ page.toNat) (hhi : page.toNat ≤ 0xEB) :
    inFloppy (pageAddr page q) = true := by
  have hq := q.isLt
  simp only [inFloppy, toNat_pageAddr, Bool.and_eq_true, decide_eq_true_eq]
  omega

@[simp] theorem sdCmd_sdParams : ∀ (x d b : Bool) (cmd : BitVec 3) (p : BitVec 2),
    sdCmd (sdParams x d b cmd p) = cmd := by decide

@[simp] theorem sdD_sdParams : ∀ (x d b : Bool) (cmd : BitVec 3) (p : BitVec 2),
    sdD (sdParams x d b cmd p) = d := by decide

@[simp] theorem sdB_sdParams : ∀ (x d b : Bool) (cmd : BitVec 3) (p : BitVec 2),
    sdB (sdParams x d b cmd p) = b := by decide

@[simp] theorem sdP_sdParams : ∀ (x d b : Bool) (cmd : BitVec 3) (p : BitVec 2),
    sdP (sdParams x d b cmd p) = p := by decide

@[simp] theorem ddMux_ddParams : ∀ (mux cmd : BitVec 4), ddMux (ddParams mux cmd) = mux := by decide

@[simp] theorem ddCmd_ddParams : ∀ (mux cmd : BitVec 4), ddCmd (ddParams mux cmd) = cmd := by decide

@[simp] theorem orderDen_orderParams : ∀ (den : Bool) (side : BitVec 1) (dir step : Bool) (ds : BitVec 4),
    orderDen (orderParams den side dir step ds) = den := by decide

@[simp] theorem orderSideBit_orderParams : ∀ (den : Bool) (side : BitVec 1) (dir step : Bool) (ds : BitVec 4),
    orderSideBit (orderParams den side dir step ds) = side := by decide

@[simp] theorem orderDir_orderParams : ∀ (den : Bool) (side : BitVec 1) (dir step : Bool) (ds : BitVec 4),
    orderDir (orderParams den side dir step ds) = dir := by decide

@[simp] theorem orderStep_orderParams : ∀ (den : Bool) (side : BitVec 1) (dir step : Bool) (ds : BitVec 4),
    orderStep (orderParams den side dir step ds) = step := by decide

@[simp] theorem orderDs_orderParams : ∀ (den : Bool) (side : BitVec 1) (dir step : Bool) (ds : BitVec 4),
    orderDs (orderParams den side dir step ds) = ds := by decide

/-- The codes of the undefined row are those from 8 on (R157). -/
theorem eight_le_undefCode : ∀ low : BitVec 3, 8 ≤ (undefCode low).toNat := by decide

end Sys2Proof
end

section
/-! What one instruction can do, said once: a controller row is the byte read of its address (R95), so an instruction
that is no bus write is made of elementary moves. -/

namespace Sys2Proof.Machine

variable {s t : State}

/-! ### The bus rows, and the guard of every bus operation -/

theorem exec_rd (a : Addr) (s : State) : exec (.rd a) s = execRd a s := rfl

theorem exec_wr (a : Addr) (v : Byte) (s : State) : exec (.wr a v) s = execWr a v s := rfl

theorem exec_rdw (a : Addr) (s : State) : exec (.rdw a) s = execRdw a s := rfl

theorem exec_wrw (a : Addr) (w : Word16) (s : State) : exec (.wrw a w) s = execWrw a w s := rfl

theorem whenLive_next {k : State → Host.Outcome State Fault Refusal} (h : whenLive s k = .next t) :
    s.fault = none ∧ k s = .next t := by
  cases hf : s.fault with
  | none => exact ⟨rfl, by rwa [whenLive_live s k hf] at h⟩
  | some r => rw [whenLive_halted s k r hf] at h; cases h

theorem whenLive_congr {k k' : State → Host.Outcome State Fault Refusal} (h : k s = k' s) :
    whenLive s k = whenLive s k' := by
  simp only [whenLive, h]

/-! ### A controller row is the byte read of its address -/

/-- A row whose meaning is what its own controller makes of the address is the byte read of that address. -/
theorem onController_eq_execRd {v : Variant} {a : Addr} {meaning : State → Res Byte} (ha : inFloppy a = true)
    (hm : s.c.variant = v → meaning s = controllerRead a s) : onController v a meaning s = execRd a s := by
  refine whenLive_congr (congrArg finishByte ?_)
  rw [busRead, if_pos ha]
  split
  case isTrue hv => exact hm hv
  case isFalse => rfl

theorem onController_sd {a : Addr} {meaning : State → Res Byte} (ha : inFloppy a = true)
    (hm : meaning s = sdRead a s) : onController .sd a meaning s = execRd a s :=
  onController_eq_execRd ha fun hv => by rw [controllerRead, hv, hm]

theorem onController_dd {a : Addr} {meaning : State → Res Byte} (ha : inFloppy a = true)
    (hm : meaning s = ddRead a s) : onController .dd a meaning s = execRd a s :=
  onController_eq_execRd ha fun hv => by rw [controllerRead, hv, hm]

theorem sdRead_sdAddr (x d b : Bool) (cmd : BitVec 3) (p : BitVec 2) (s : State) :
    sdRead (sdAddr x d b cmd p) s = sdCmdRead (sdAddr x d b cmd p) (sdParams x d b cmd p) s := by
  simp [sdRead, sdAddr]

theorem ddRead_ddAddr (mux cmd : BitVec 4) (s : State) :
    ddRead (ddAddr mux cmd) s = ddCmdRead (ddAddr mux cmd) (ddParams mux cmd) s := by
  simp [ddRead, ddAddr]

theorem ddCmdRead_undefCode (a : Addr) (mux : BitVec 4) (low : BitVec 3) (s : State) :
    ddCmdRead a (ddParams mux (undefCode low)) s = ddUndefRead a mux s := by
  have h := eight_le_undefCode low
  unfold ddCmdRead
  simp only [ddCmd_ddParams, ddMux_ddParams]
  split
  case h_9 => rfl
  all_goals omega

/-- Each controller row stands for the byte read of its address (R95), on either controller. -/
theorem exec_controllerRow (i : Instr) (s : State) (h : i.needsVariant ≠ none) :
    exec i s = execRd (encodeAddr i) s := by
  cases i with
  | rd | wr | rdw | wrw => exact absurd rfl h
  | sdProm | sdProm1 | sdWdata =>
    exact onController_sd (inFloppy_pageAddr (by decide) (by decide)) (by simp [sdRead])
  | sdSel | sdWrt | sdStpff | sdIntr | sdNop | sdRsf | sdReset | sdStpdir =>
    exact onController_sd (inFloppy_pageAddr (by decide) (by decide)) (by simp [sdRead_sdAddr, sdCmdRead])
  | ddProm | ddWdata =>
    exact onController_dd (inFloppy_pageAddr (by decide) (by decide)) (by simp [ddRead])
  | ddOrder =>
    exact onController_dd (inFloppy_pageAddr (by decide) (by decide)) (by simp [ddRead, orderAddr])
  | ddNop | ddRsf | ddIntr2 | ddIntr3 | ddBody | ddMotor | ddWrt | ddReset =>
    exact onController_dd (inFloppy_pageAddr (by decide) (by decide)) (by simp [ddRead_ddAddr, ddCmdRead])
  | ddUndef mux low =>
    exact onController_dd (inFloppy_pageAddr (by decide) (by decide)) (by rw [ddRead_ddAddr, ddCmdRead_undefCode])

/-! ### The next states of an instruction -/

theorem finishByte_next {r : Res Byte} (h : finishByte r = .next t) : ∃ x, t = { r.state with result := x } := by
  cases r <;> cases h <;> exact ⟨_, rfl⟩

theorem finishWord_next {r : Res Word16} (h : finishWord r = .next t) : ∃ x, t = { r.state with result := x } := by
  cases r <;> cases h <;> exact ⟨_, rfl⟩

theorem Moves.setResult {u : State} (h : Moves s u) (x : BusResult) : Moves s { u with result := x } :=
  h.trans (.single (.result x))

/-- What an instruction that answers a next state does: elementary moves, or one of the two bus writes. -/
inductive BusStep (s : State) : Instr → State → Prop
  | moves {i : Instr} {t : State} : Moves s t → BusStep s i t
  | write (a : Addr) (v : Byte) : BusStep s (.wr a v) { busWrite a v s with result := .none }
  | writeWord (a : Addr) (w : Word16) : BusStep s (.wrw a w) { busWriteWord a w s with result := .none }

theorem execRd_moves {a : Addr} (h : execRd a s = .next t) : Moves s t := by
  obtain ⟨x, rfl⟩ := finishByte_next (whenLive_next h).2
  exact (Moves.busRead a s).setResult x

theorem execRdw_moves {a : Addr} (h : execRdw a s = .next t) : Moves s t := by
  obtain ⟨x, rfl⟩ := finishWord_next (whenLive_next h).2
  exact (Moves.busReadWord a s).setResult x

theorem execWr_next {a : Addr} {v : Byte} (h : execWr a v s = .next t) :
    t = { busWrite a v s with result := .none } := by
  cases (whenLive_next h).2
  rfl

theorem execWrw_next {a : Addr} {w : Word16} (h : execWrw a w s = .next t) :
    t = { busWriteWord a w s with result := .none } := by
  cases (whenLive_next h).2
  rfl

/-- Every instruction that answers a next state does a bus step. -/
theorem exec_next {i : Instr} (h : exec i s = .next t) : BusStep s i t := by
  by_cases hi : i.needsVariant = none
  · cases i with
    | rd a => exact .moves (execRd_moves h)
    | wr a v => exact execWr_next h ▸ .write a v
    | rdw a => exact .moves (execRdw_moves h)
    | wrw a w => exact execWrw_next h ▸ .writeWord a w
    | _ => cases hi
  · exact .moves (execRd_moves ((exec_controllerRow i s hi).symm.trans h))

end Sys2Proof.Machine
end

section
/-! When a host move takes a step, and the state it leaves (46_host_operations.md R250 to R259). -/

namespace Sys2Proof.Machine

variable {s t : State} {u : Nat}

/-- A guarded move takes a step only where its guard holds. -/
theorem guarded_next {p : Prop} [Decidable p] {after : State} {r : Refusal} :
    (if p then .next after else .refused r : Host.Outcome State Fault Refusal) = .next t ↔ p ∧ after = t := by
  split <;> simp [*]

theorem hostStep_mount_next {image : DiskImage} :
    hostStep (.mount u image) s = .next t ↔ (1 ≤ u ∧ u ≤ numUnits s.c.variant) ∧ mountImage u image s = t := by
  simp only [hostStep, hasUnit, decide_eq_true_eq, guarded_next]

theorem hostStep_mountFailed_next :
    hostStep (.mountFailed u) s = .next t ↔ (1 ≤ u ∧ u ≤ numUnits s.c.variant) ∧ mountNothing u s = t := by
  simp only [hostStep, hasUnit, decide_eq_true_eq, guarded_next]

theorem hostStep_unmount_next :
    hostStep (.unmount u) s = .next t ↔ u ≤ numUnits s.c.variant ∧ unmountDrive u s = t := by
  simp only [hostStep, hasUnit, decide_eq_true_eq, guarded_next]

theorem hostStep_commit_next :
    hostStep (.commit u) s = .next t ↔ u ≤ numUnits s.c.variant ∧ commitDrive u s = t := by
  simp only [hostStep, hasUnit, decide_eq_true_eq, guarded_next]

theorem hostStep_setReadOnly_next {on : Bool} :
    hostStep (.setReadOnly u on) s = .next t ↔ u ≤ numUnits s.c.variant ∧ setReadOnlyFlag u on s = t := by
  simp only [hostStep, hasUnit, decide_eq_true_eq, guarded_next]

end Sys2Proof.Machine
end

section
/-! While a fault is recorded no bus operation is enabled, and no host move but a reboot touches the record (10_state.md
R35, 60_exceptions.md R270). -/

namespace Sys2Proof.Machine

@[simp] theorem mountImage_fault (u : Nat) (image : DiskImage) (s : State) :
    (mountImage u image s).fault = s.fault := rfl

@[simp] theorem mountNothing_fault (u : Nat) (s : State) : (mountNothing u s).fault = s.fault := rfl

@[simp] theorem unmountDrive_fault (u : Nat) (s : State) : (unmountDrive u s).fault = s.fault := rfl

@[simp] theorem commitDrive_fault (u : Nat) (s : State) : (commitDrive u s).fault = s.fault := by
  unfold commitDrive
  split <;> rfl

@[simp] theorem setReadOnlyFlag_fault (u : Nat) (on : Bool) (s : State) :
    (setReadOnlyFlag u on s).fault = s.fault := rfl

@[simp] theorem pollMotors_fault (now : Nat) (s : State) : (pollMotors now s).fault = s.fault := by
  unfold pollMotors
  repeat' split
  all_goals rfl

/-- Every instruction starts with the guard of R35. -/
theorem exec_guarded (i : Instr) (s : State) : ∃ k, exec i s = whenLive s k := by
  by_cases hi : i.needsVariant = none
  · cases i with
    | rd a => exact ⟨_, exec_rd a s⟩
    | wr a v => exact ⟨_, exec_wr a v s⟩
    | rdw a => exact ⟨_, exec_rdw a s⟩
    | wrw a w => exact ⟨_, exec_wrw a w s⟩
    | _ => cases hi
  · exact ⟨_, exec_controllerRow i s hi⟩

theorem exec_halted (i : Instr) {s : State} {r : FaultRecord} (h : s.fault = some r) :
    exec i s = .fault (.halted r) := by
  obtain ⟨k, hk⟩ := exec_guarded i s
  exact hk.trans (whenLive_halted s k r h)

/-- A host move that is no reboot leaves the record. -/
theorem hostStep_fault {m : HostOp} {s t : State} (hm : ∀ v images clearRam, m ≠ .reboot v images clearRam)
    (h : hostStep m s = .next t) : t.fault = s.fault := by
  cases m with
  | mount u image =>
    obtain ⟨-, rfl⟩ := hostStep_mount_next.1 h
    exact mountImage_fault u image s
  | mountFailed u =>
    obtain ⟨-, rfl⟩ := hostStep_mountFailed_next.1 h
    exact mountNothing_fault u s
  | unmount u =>
    obtain ⟨-, rfl⟩ := hostStep_unmount_next.1 h
    exact unmountDrive_fault u s
  | commit u =>
    obtain ⟨-, rfl⟩ := hostStep_commit_next.1 h
    exact commitDrive_fault u s
  | setAutoCommit on => cases h; rfl
  | setReadOnly u on =>
    obtain ⟨-, rfl⟩ := hostStep_setReadOnly_next.1 h
    exact setReadOnlyFlag_fault u on s
  | reboot v images clearRam => exact absurd rfl (hm v images clearRam)
  | motorPoll now => cases h; exact pollMotors_fault now s
  | createBlank size => cases h; rfl

end Sys2Proof.Machine

namespace Sys2Proof.Proofs.BlockState
open Sys2Proof.Machine

/-- Settles O7: the guard of a bus operation, and the frame of each move of the host. -/
theorem noStepAfterAFault : Obligations.NoStepAfterAFault :=
  ⟨fun i _ _ => exec_halted i, fun _ _ _ => hostStep_fault⟩

end Sys2Proof.Proofs.BlockState
end

section
/-! Every operation on a drive keeps what the invariant says of it (10_state.md R27, R29; 43_drive_rotation.md R183;
44_drive_transfer.md R205, R211). Each lemma is `{ h with … }`: it gives the clauses that speak of a field the operation
writes, and the others are those of the drive before. -/

namespace Sys2Proof.Machine

/-- A drive in a scan state has no transfer in progress. -/
theorem not_transferring_of_isScan {st : DriveState} (h : isScan st = true) :
    ¬(st = .readData ∨ st = .writeLeadin ∨ st = .writeData) := by
  rintro (rfl | rfl | rfl) <;> cases h

theorem Drive.sectorSize_pos (v : Variant) (d : Drive) : 0 < d.sectorSize v := by
  unfold Drive.sectorSize
  repeat' split
  all_goals decide

theorem Drive.sectorSize_le (v : Variant) (d : Drive) : d.sectorSize v ≤ 512 := by
  unfold Drive.sectorSize
  repeat' split
  all_goals decide

namespace Drive.Inv

variable {cfg cfg' : Config} {env : DriveEnv} {v : Variant} {u : Nat} {readOnly : Bool} {d : Drive}

/-- A reset drive, head and sector drawn (R27). -/
theorem drawn (cfg : Config) (v : Variant) (u : Nat) (readOnly : Bool) (n : Nat) :
    Drive.Inv cfg v u readOnly (Drive.drawn u readOnly n) where
  number := rfl
  track := Nat.le_of_lt_succ (Config.trackDraw n u).isLt
  sector := Nat.le_of_lt_succ (Config.sectorDraw n u).isLt
  sink _ := rfl
  sdSingle _ := rfl
  protect := rfl
  pending := nofun
  remaining := nofun
  bounded := Nat.zero_le _
  jitter := Nat.zero_le _

/-! ### Rotation -/

theorem countdown (h : Drive.Inv cfg v u readOnly d) {next : DriveState} (hn : isScan next = true) (k : Nat) :
    Drive.Inv cfg v u readOnly (d.countdown next k) := by
  unfold Drive.countdown
  split
  · exact { h with remaining := fun hr => absurd hr (not_transferring_of_isScan hn) }
  · exact { h with }

theorem advance (h : Drive.Inv cfg v u readOnly d) (cfg' : Config) :
    Drive.Inv cfg v u readOnly (d.advance cfg') :=
  { h with
    sector := Nat.le_of_lt_succ (Nat.mod_lt _ (by decide))
    remaining := nofun }

theorem scanProbe (h : Drive.Inv cfg v u readOnly d) (seed : Nat) :
    Drive.Inv cfg v u readOnly (d.scanProbe cfg seed) := by
  unfold Drive.scanProbe
  split
  · exact { h with jitter := Nat.le_of_lt_succ (Nat.mod_lt _ (Nat.succ_pos _)) }
  · split
    · exact { h with jitter := (Nat.sub_le _ _).trans h.jitter }
    · exact h.advance cfg

theorem update (h : Drive.Inv cfg v u readOnly d) (r : Bool) (seed : Nat) :
    Drive.Inv cfg v u readOnly (d.update cfg r seed) := by
  unfold Drive.update
  split
  · split
    · exact h.scanProbe seed
    · exact h.advance cfg
  · have opened : Drive.Inv cfg v u readOnly { d with writeReady := false, inWindow := true } := { h with }
    exact opened.countdown rfl _
  · have closed : Drive.Inv cfg v u readOnly { d with syncDetected := true, inWindow := false } := { h with }
    exact closed.countdown rfl _
  all_goals exact h.countdown rfl _

/-! ### Stepping -/

theorem setStepFlipFlop (h : Drive.Inv cfg v u readOnly d) (bit : Bool) :
    Drive.Inv cfg v u readOnly (d.setStepFlipFlop bit) := by
  have ht := h.track
  rw [Drive.setStepFlipFlop_eq]
  refine { h with track := ?_ }
  dsimp only
  split
  · split <;> omega
  · exact ht

/-! ### Reading -/

theorem startRead (h : Drive.Inv cfg v u readOnly d) (env : DriveEnv) :
    Drive.Inv cfg v u readOnly (d.startRead env) :=
  { h with
    remaining := fun _ => d.sectorSize_pos env.variant
    bounded := d.sectorSize_le env.variant }

theorem streamed (h : Drive.Inv cfg v u readOnly d) (cfg' : Config) (b : Byte) :
    Drive.Inv cfg v u readOnly (d.streamed cfg' b) :=
  { h with
    remaining := by
      unfold Drive.streamed
      dsimp only
      split
      · simp
      · exact fun _ => Nat.pos_of_ne_zero ‹_›
    bounded := (Nat.sub_le _ _).trans h.bounded }

theorem readPayload (h : Drive.Inv cfg v u readOnly d) (cfg' : Config) :
    Drive.Inv cfg v u readOnly (d.readPayload cfg').drive := by
  unfold Drive.readPayload
  split
  · exact h.streamed cfg' 0
  · split
    · exact h
    · have moved : Drive.Inv cfg v u readOnly { d with xferOffset := d.xferOffset + 1 } := { h with }
      exact moved.streamed cfg' _

theorem readByte (h : Drive.Inv cfg v u readOnly d) (env : DriveEnv) :
    Drive.Inv cfg v u readOnly (d.readByte env).drive := by
  unfold Drive.readByte
  split
  case h_4 => exact h.readPayload _
  case h_5 => exact { h with remaining := nofun }
  case h_1 | h_2 | h_3 => exact (h.startRead env).readPayload _
  all_goals exact h

/-! ### Writing -/

theorem startWrite (h : Drive.Inv cfg v u readOnly d) (env : DriveEnv) :
    Drive.Inv cfg v u readOnly (d.startWrite env) :=
  { h with
    remaining := fun _ => d.sectorSize_pos env.variant
    bounded := d.sectorSize_le env.variant }

theorem beginWrite (h : Drive.Inv cfg v u readOnly d) (env : DriveEnv) :
    Drive.Inv cfg v u readOnly (d.beginWrite env).drive := by
  unfold Drive.beginWrite
  split
  · exact h
  · split
    case h_1 | h_2 | h_3 => exact h.startWrite env
    all_goals exact h

theorem reloaded (h : Drive.Inv cfg v u readOnly d) (cfg' : Config) :
    Drive.Inv cfg v u readOnly (d.reloaded cfg') := { h with }

/-- The lead-in ends in the payload state, with the whole sector still to come (R214). -/
theorem leadin (h : Drive.Inv cfg v u readOnly d) (hs : d.state = .writeLeadin) (env : DriveEnv) (b : Byte) :
    Drive.Inv cfg v u readOnly (d.leadin env b) := by
  have whole : 0 < d.xferRemaining := h.remaining (.inr (.inl hs))
  unfold Drive.leadin
  repeat' split
  · exact { h with remaining := fun _ => whole }
  · exact { h with }
  · exact { h with remaining := fun _ => whole }
  · exact h

theorem consumed (h : Drive.Inv cfg v u readOnly d) (b : Byte) :
    Drive.Inv cfg v u readOnly (d.consumed b) :=
  { h with
    remaining := by
      unfold Drive.consumed
      dsimp only
      split
      · simp
      · exact fun _ => Nat.pos_of_ne_zero ‹_›
    bounded := (Nat.sub_le _ _).trans h.bounded }

theorem stored (h : Drive.Inv cfg v u readOnly d) {b : Byte} {d' : Drive} (hd : d.stored b = some d') :
    Drive.Inv cfg v u readOnly d' := by
  unfold Drive.stored at hd
  split at hd
  · cases hd; exact h
  · rename_i buf hbuf
    split at hd
    · cases hd; exact h
    · split at hd <;> cases hd
      refine { h with sink := fun hu => ?_, pending := fun _ => rfl }
      rw [h.sink hu] at hbuf
      cases hbuf

theorem writePayload (h : Drive.Inv cfg v u readOnly d) (cfg' : Config) (b : Byte) :
    Drive.Inv cfg v u readOnly (d.writePayload cfg' b).drive := by
  unfold Drive.writePayload
  split
  · exact h
  · rename_i d' hd
    exact ((h.stored hd).consumed b).reloaded cfg'

theorem writeCrcByte (h : Drive.Inv cfg v u readOnly d) (env : DriveEnv) :
    Drive.Inv cfg v u readOnly (d.writeCrcByte env).drive := by
  have ended : Drive.Inv cfg v u readOnly (({ d with state := .writeEnd } : Drive).reloaded env.cfg) :=
    { h with remaining := nofun }
  unfold Drive.writeCrcByte
  split
  · exact ended
  · rename_i buf hbuf
    have hdisk : d.diskBuffer.isSome = true := by rw [hbuf]; rfl
    repeat' split
    · exact ended
    · exact { ended with pending := fun _ => hdisk }
    · exact { ended with pending := fun _ => hdisk }

theorem writeByte (h : Drive.Inv cfg v u readOnly d) (env : DriveEnv) (b : Byte) :
    Drive.Inv cfg v u readOnly (d.writeByte env b).drive := by
  unfold Drive.writeByte
  split
  · exact h
  · split
    case h_1 hs => exact (h.leadin hs env b).reloaded env.cfg
    case h_2 => exact h.writePayload env.cfg b
    case h_3 => exact h.writeCrcByte env
    all_goals exact h

end Drive.Inv

/-- Whatever happens to the selected drive at once keeps its invariant. -/
theorem DriveMove.inv {env : DriveEnv} {v : Variant} {u : Nat} {readOnly : Bool} {d d' : Drive}
    (hm : DriveMove env d d') (h : Drive.Inv env.cfg v u readOnly d) : Drive.Inv env.cfg v u readOnly d' := by
  cases hm with
  | update r seed => exact h.update r seed
  | read => exact h.readByte env
  | begin => exact h.beginWrite env
  | write b => exact h.writeByte env b
  | clearHole => exact { h with }
  | latch bit => exact h.setStepFlipFlop bit
  | direction way => exact { h with }

end Sys2Proof.Machine
end

section
/-! Every step keeps the invariant of the block (10_state.md R22 to R30, 46_host_operations.md R255, 60_exceptions.md
R281, 70_reset_and_hazards.md R291): the drive put back in the controller, the elementary moves of a bus operation,
and the host's moves. -/

namespace Sys2Proof.Machine

theorem readOnlyOf_set_same {flags : List Bool} {u : Nat} {on : Bool} (h : u < flags.length) :
    readOnlyOf (flags.set u on) u = on := by
  simp [readOnlyOf, h]

theorem readOnlyOf_set_other {flags : List Bool} {u w : Nat} {on : Bool} (h : u ≠ w) :
    readOnlyOf (flags.set u on) w = readOnlyOf flags w := by
  simp [readOnlyOf, List.getElem?_set_ne h]

/-- `NUM_UNITS` is at most 4 (R7). -/
theorem numUnits_le (v : Variant) : numUnits v ≤ 4 := by
  cases v <;> decide

/-! ### The controller -/

namespace Controller.Inv

variable {cfg : Config} {flags flags' : List Bool} {c : Controller} {u : Nat} {d : Drive}

/-- The record of a unit the controller has. -/
theorem drive_of_le (h : Controller.Inv cfg flags c) (hu : u ≤ numUnits c.variant) :
    Drive.Inv cfg c.variant u (readOnlyOf flags u) (c.drive u) := by
  have hlt : u < c.drives.length := by rw [h.nDrives]; omega
  refine h.drive u _ ?_
  simp [Controller.drive, hlt]

/-- A drive put in place of another, under flags that may differ in its own unit's. -/
theorem setDrive (h : Controller.Inv cfg flags c) (hd : Drive.Inv cfg c.variant u (readOnlyOf flags' u) d)
    (hother : ∀ w, u ≠ w → readOnlyOf flags' w = readOnlyOf flags w) :
    Controller.Inv cfg flags' { c with drives := c.drives.set u d } :=
  { h with
    nDrives := (List.length_set ..).trans h.nDrives
    drive := by
      intro w e he
      by_cases huw : u = w
      · subst huw
        rw [List.getElem?_set_self'] at he
        obtain ⟨-, -, rfl⟩ := Option.map_eq_some_iff.1 he
        exact hd
      · rw [List.getElem?_set_ne huw] at he
        rw [hother w huw]
        exact h.drive w e he }

/-- A new controller, at its reset column (R290, R291). -/
theorem fresh (cfg : Config) (flags : List Bool) (v : Variant) (n : Nat) :
    Controller.Inv cfg flags (Controller.fresh v cfg.firmwareROM flags n) where
  nDrives := by simp [Controller.fresh]
  selected := Nat.zero_le _
  drive := by
    intro u d h
    simp only [Controller.fresh, List.getElem?_map, Option.map_eq_some_iff] at h
    obtain ⟨w, hw, rfl⟩ := h
    obtain ⟨-, rfl⟩ := List.getElem?_eq_some_iff.1 hw
    rw [List.getElem_range]
    exact Drive.Inv.drawn ..
  sdOrder _ := ⟨rfl, rfl⟩
  rom := rfl
  motors := nofun

end Controller.Inv

/-! ### Bus operations -/

namespace State.Inv

variable {s t : State}

theorem tick (h : s.Inv) : s.tick.Inv := { h with }

theorem called (h : s.Inv) (call : HostCall) : (s.called call).Inv := { h with }

theorem setDrive (h : s.Inv) {u : Nat} {d : Drive}
    (hd : Drive.Inv s.cfg s.c.variant u (readOnlyOf s.readOnlyConfig u) d) : (s.setDrive u d).Inv :=
  { h with ctl := h.ctl.setDrive hd fun _ _ => rfl }

/-- An elementary move of a bus operation keeps the invariant. -/
theorem move (hm : Move s t) (h : s.Inv) : t.Inv := by
  cases hm with
  | tick => exact h.tick
  | motors => exact { h with ctl := { h.ctl with motors := fun _ => rfl } }
  | drive d hd => exact h.setDrive (hd.inv (h.ctl.drive_of_le h.ctl.selected))
  | call calls => exact { h with }
  | select u hu => exact { h with ctl := { h.ctl with selected := hu } }
  | order den side hv => exact { h with ctl := { h.ctl with sdOrder := fun hsd => nomatch hsd.symm.trans hv } }
  | fault r => exact { h with }
  | result r => exact { h with }

theorem busWrite (h : s.Inv) (a : Addr) (v : Byte) : (busWrite a v s).Inv := by
  unfold Machine.busWrite
  split
  · exact h
  · exact h
  · exact h.called _
  · exact { h with ram := Memory.write_wf s.ram a v h.ram }

theorem busStep {i : Instr} (hb : BusStep s i t) (h : s.Inv) : t.Inv := by
  cases hb with
  | moves hm => exact hm.preserve (fun _ _ => move) h
  | write a v => exact { h.busWrite a v with }
  | writeWord a w => exact { (h.busWrite a (lowByte w)).busWrite (second a) (highByte w) with }

/-! ### The host's moves -/

theorem mountImage (h : s.Inv) {u : Nat} (hu : 1 ≤ u) (image : DiskImage) : (mountImage u image s).Inv := by
  have reset := Drive.Inv.drawn s.cfg s.c.variant u (readOnlyOf s.readOnlyConfig u) (s.draws + 1)
  refine h.tick.setDrive { reset with sink := ?_, sdSingle := ?_, pending := nofun }
  · rintro rfl
    cases hu
  · intro (hsd : s.c.variant = .sd)
    simp only [hsd]

theorem mountNothing (h : s.Inv) (u : Nat) : (mountNothing u s).Inv :=
  h.tick.setDrive (Drive.Inv.drawn ..)

theorem unmountDrive (h : s.Inv) {u : Nat} (hu : u ≤ numUnits s.c.variant) : (unmountDrive u s).Inv :=
  h.setDrive { h.ctl.drive_of_le hu with sink := fun _ => rfl, pending := nofun }

theorem commitDrive (h : s.Inv) {u : Nat} (hu : u ≤ numUnits s.c.variant) : (commitDrive u s).Inv := by
  unfold Machine.commitDrive
  split
  · rename_i buf _ hbuf
    refine (h.tick.setDrive ?_).called _
    exact { h.ctl.drive_of_le hu with pending := fun _ => by rw [hbuf]; rfl }
  · exact h

theorem setReadOnlyFlag (h : s.Inv) {u : Nat} (hu : u ≤ numUnits s.c.variant) (on : Bool) :
    (setReadOnlyFlag u on s).Inv := by
  have hlt : u < s.readOnlyConfig.length := by
    rw [h.flags]
    exact Nat.lt_succ_of_le (hu.trans (numUnits_le _))
  exact
    { ram := h.ram
      flags := (List.length_set ..).trans h.flags
      ctl := h.ctl.setDrive { h.ctl.drive_of_le hu with protect := (readOnlyOf_set_same hlt).symm }
        fun w hw => readOnlyOf_set_other hw }

theorem mountFrom {u : Nat} (hu : 1 ≤ u) (images : List (Option DiskImage)) (h : s.Inv) :
    (mountFrom u images s).Inv := by
  induction images generalizing u s with
  | nil => exact h
  | cons entry rest ih =>
    unfold Machine.mountFrom
    split
    · cases entry with
      | none => exact ih (Nat.le_succ_of_le hu) h
      | some image => exact ih (Nat.le_succ_of_le hu) (h.mountImage hu image)
    · exact h

theorem rebootBlock (h : s.Inv) (v : Variant) (images : List (Option DiskImage)) (clearRam : Bool) :
    (rebootBlock v images clearRam s).Inv := by
  have installed : (installController v { s with fault := none }).Inv := { h with ctl := Controller.Inv.fresh .. }
  have mounted := mountFrom (Nat.le_refl 1) images installed
  unfold Machine.rebootBlock
  dsimp only
  split
  · exact { mounted with ram := Memory.empty_wf _ }
  · exact mounted

theorem pollMotors (h : s.Inv) (now : Nat) : (pollMotors now s).Inv := by
  unfold Machine.pollMotors
  split
  · exact h
  · split
    · exact { h with ctl := { h.ctl with motors := nofun } }
    · exact h

theorem hostStep {m : HostOp} (h : s.Inv) (hs : hostStep m s = .next t) : t.Inv := by
  cases m with
  | mount u image =>
    obtain ⟨⟨hu, -⟩, rfl⟩ := hostStep_mount_next.1 hs
    exact h.mountImage hu image
  | mountFailed u =>
    obtain ⟨-, rfl⟩ := hostStep_mountFailed_next.1 hs
    exact h.mountNothing u
  | unmount u =>
    obtain ⟨hu, rfl⟩ := hostStep_unmount_next.1 hs
    exact h.unmountDrive hu
  | commit u =>
    obtain ⟨hu, rfl⟩ := hostStep_commit_next.1 hs
    exact h.commitDrive hu
  | setAutoCommit on => cases hs; exact { h with }
  | setReadOnly u on =>
    obtain ⟨hu, rfl⟩ := hostStep_setReadOnly_next.1 hs
    exact h.setReadOnlyFlag hu on
  | reboot v images clearRam => cases hs; exact h.rebootBlock v images clearRam
  | motorPoll now => cases hs; exact h.pollMotors now
  | createBlank size => cases hs; exact h

/-! ### The step -/

theorem step (h : s.Inv) (hs : step s = .next t) : t.Inv := by
  cases hp : s.pending with
  | nil => rw [step_of_pending_nil hp] at hs; cases hs
  | cons e rest =>
    have next : ({ s with pending := rest } : State).Inv := { h with }
    cases e with
    | bus op => exact next.busStep (exec_next ((step_of_pending_bus hp).symm.trans hs))
    | host m => exact next.hostStep ((step_of_pending_host hp).symm.trans hs)

end State.Inv

end Sys2Proof.Machine

namespace Sys2Proof.Proofs.BlockState

/-- Settles O14: a bus operation is made of elementary moves or is a bus write, and each of these keeps the invariant,
as does each move of the host. -/
theorem stepKeepsInvariant : Obligations.StepKeepsInvariant :=
  fun _ _ h hs => h.step hs

end Sys2Proof.Proofs.BlockState
end

section
/-! The sector-flag bit of the status bytes, and the drive's view field by field (10_state.md R32, R33). -/

namespace Sys2Proof.Machine

/-- The forced bit of a byte reads as it was set. -/
theorem getLsbD_forceBit (b : Byte) (i : Fin 8) (on : Bool) : (forceBit b i on).getLsbD i.val = on := by
  cases on <;> simp [forceBit]

/-- Every status byte has the view's sector-flag value in its sector-flag bit (R33). -/
theorem sfBit_statusBytes (cfg : Config) (v : DriveView) :
    (statusASd cfg v).getLsbD cfg.sfBitASd.val = sfValue v ∧ (statusBSd cfg v).getLsbD cfg.sfBitBSd.val = sfValue v ∧
      (statusADd cfg v).getLsbD cfg.sfBitADd.val = sfValue v ∧
      (statusBDd cfg v).getLsbD cfg.sfBitBDd.val = sfValue v ∧
      (statusCDd cfg v).getLsbD cfg.sfBitCDd.val = sfValue v :=
  ⟨getLsbD_forceBit .., getLsbD_forceBit .., getLsbD_forceBit .., getLsbD_forceBit .., getLsbD_forceBit ..⟩

/-- The sector-flag value of a drive's view: set with no disk (R33, constraint 2), else the sector flag (constraint
3). -/
theorem sfValue_viewOf (c : Controller) (d : Drive) {bit : Bool} (hnone : d.diskBuffer = none → bit = true)
    (hsome : d.diskBuffer ≠ none → bit = d.sectorHoleDetected) : sfValue (viewOf c d) = bit := by
  cases hb : d.diskBuffer with
  | none => simp [sfValue, viewOf, hb, hnone hb]
  | some buf => simp [sfValue, viewOf, hb, hsome (by simp [hb])]

end Sys2Proof.Machine

namespace Sys2Proof.Proofs.BlockState
open Sys2Proof.Machine

/-- Settles O54: each status byte has its sector-flag bit forced to the value R33 gives. -/
theorem statusBytesCarryTheSectorFlag : Obligations.StatusBytesCarryTheSectorFlag := by
  refine ⟨sfBit_statusBytes, fun cfg c d bit hnone hsome => ?_, fun c d => ?_⟩
  · exact sfValue_viewOf c d hnone hsome ▸ sfBit_statusBytes cfg (viewOf c d)
  · cases hv : c.variant <;> cases hb : d.diskBuffer <;> simp [viewOf, hv, hb, beq_eq_decide]

end Sys2Proof.Proofs.BlockState
end

section
/-! What no bus operation changes: the parameters, the host's flags, the queue, the installed controller, its ROM and its
number of drives, whatever the operation; RAM, unless it is a bus write (20_memory.md R70, 40_bus_router.md R100, R101,
10_state.md R24, R30). -/

namespace Sys2Proof.Machine

/-- `t` agrees with `s` on all that no bus operation changes, a bus write included. -/
structure FixedKept (s t : State) : Prop where
  cfg      : t.cfg = s.cfg
  auto     : t.autoCommitConfig = s.autoCommitConfig
  readOnly : t.readOnlyConfig = s.readOnlyConfig
  pending  : t.pending = s.pending
  variant  : t.c.variant = s.c.variant
  rom      : t.c.firmwareROM = s.c.firmwareROM
  nDrives  : t.c.drives.length = s.c.drives.length

namespace FixedKept

variable {s t u : State}

theorem refl (s : State) : FixedKept s s := ⟨rfl, rfl, rfl, rfl, rfl, rfl, rfl⟩

theorem trans (h : FixedKept s t) (h' : FixedKept t u) : FixedKept s u where
  cfg := h'.cfg.trans h.cfg
  auto := h'.auto.trans h.auto
  readOnly := h'.readOnly.trans h.readOnly
  pending := h'.pending.trans h.pending
  variant := h'.variant.trans h.variant
  rom := h'.rom.trans h.rom
  nDrives := h'.nDrives.trans h.nDrives

/-- Of the elementary moves only a drive put back writes the list of drives, and it keeps its length. -/
theorem move (hm : Move s t) : FixedKept s t := by
  cases hm with
  | drive d _ => exact { refl s with nDrives := List.length_set .. }
  | tick | motors | call | select | order | fault | result => exact { refl s with }

theorem moves (hm : Moves s t) : FixedKept s t :=
  hm.preserve (P := FixedKept s) (fun _ _ hm' h => h.trans (move hm')) (refl s)

theorem busWrite (a : Addr) (v : Byte) (s : State) : FixedKept s (busWrite a v s) := by
  unfold Machine.busWrite
  split <;> exact { refl s with }

theorem busWriteWord (a : Addr) (w : Word16) (s : State) : FixedKept s (busWriteWord a w s) :=
  (busWrite a (lowByte w) s).trans (busWrite (second a) (highByte w) _)

theorem busStep {i : Instr} (hb : BusStep s i t) : FixedKept s t := by
  cases hb with
  | moves hm => exact moves hm
  | write a v => exact { busWrite a v s with }
  | writeWord a w => exact { busWriteWord a w s with }

end FixedKept

variable {s t : State}

theorem Move.ram_eq (hm : Move s t) : t.ram = s.ram := by
  cases hm <;> rfl

theorem Moves.ram_eq (hm : Moves s t) : t.ram = s.ram :=
  hm.preserve (P := fun t => t.ram = s.ram) (fun _ _ hm' h => hm'.ram_eq.trans h) rfl

/-- An instruction that is no bus write is made of elementary moves, none of which writes RAM. -/
theorem BusStep.ram_eq {i : Instr} (hb : BusStep s i t) (hwr : ∀ a v, i ≠ .wr a v) (hwrw : ∀ a w, i ≠ .wrw a w) :
    t.ram = s.ram := by
  cases hb with
  | moves hm => exact hm.ram_eq
  | write a v => exact absurd rfl (hwr a v)
  | writeWord a w => exact absurd rfl (hwrw a w)

end Sys2Proof.Machine

namespace Sys2Proof.Proofs.Memory
open Sys2Proof.Machine

/-- Settles O9: an instruction is made of elementary moves or is a bus write; both keep the fixed part of the state, and
the moves keep RAM as well. -/
theorem busOperationsKeepFixedState : Obligations.BusOperationsKeepFixedState := by
  intro i s t h
  have hb := exec_next h
  obtain ⟨hcfg, hauto, hreadOnly, hpending, hvariant, hrom, hdrives⟩ := FixedKept.busStep hb
  refine ⟨hcfg, hauto, hreadOnly, hpending, hvariant, hrom, hdrives, fun hwr hwrw a => ?_⟩
  rw [hb.ram_eq hwr hwrw]

end Sys2Proof.Proofs.Memory
end

section
/-! Decoding and encoding are inverse to each other on bus operations (30_encoding.md R81 to R95): the fields an address
was put together from, and an address put together again from its fields. -/

namespace Sys2Proof

@[simp] theorem sdX_sdParams : ∀ (x d b : Bool) (cmd : BitVec 3) (p : BitVec 2),
    sdX (sdParams x d b cmd p) = x := by decide

@[simp] theorem extractLow_ddParams_undefCode : ∀ (mux : BitVec 4) (low : BitVec 3),
    (ddParams mux (undefCode low)).extractLsb' 0 3 = low := by decide

theorem sdParams_fields : ∀ q : Byte, sdParams (sdX q) (sdD q) (sdB q) (sdCmd q) (sdP q) = q := by decide

theorem orderParams_fields : ∀ q : Byte,
    orderParams (orderDen q) (orderSideBit q) (orderDir q) (orderStep q) (orderDs q) = q := by decide

theorem ddParams_fields : ∀ q : Byte, ddParams (ddMux q) (ddCmd q) = q := by decide

/-- The low bits of an undefined command code tell it (R157). -/
theorem ddCmd_eq_undefCode : ∀ q : Byte, 8 ≤ (ddCmd q).toNat → ddCmd q = undefCode (q.extractLsb' 0 3) := by decide

/-- The floppy range is the four pages from 0xE8 on, numbered by the operation type (R61, R82). -/
theorem pageAddr_fields {a : Addr} (h : inFloppy a = true) :
    pageAddr (0xE8#8 + (opType a).setWidth 8) (params a) = a := by
  simp only [inFloppy, Bool.and_eq_true, decide_eq_true_eq] at h
  apply BitVec.eq_of_toNat_eq
  simp only [toNat_pageAddr, opType, params, BitVec.toNat_add, BitVec.toNat_setWidth, BitVec.extractLsb'_toNat,
    Nat.shiftRight_eq_div_pow]
  simp
  omega

/-! ### Encoding what was decoded -/

theorem sdAddr_fields {q : Byte} {k : Nat} (h : (sdCmd q).toNat = k) :
    sdAddr (sdX q) (sdD q) (sdB q) (BitVec.ofNat 3 k) (sdP q) = pageAddr 0xEB#8 q := by
  rw [← h, BitVec.ofNat_toNat, BitVec.setWidth_eq, sdAddr, sdParams_fields]

theorem ddAddr_fields {q : Byte} {k : Nat} (h : (ddCmd q).toNat = k) :
    ddAddr (ddMux q) (BitVec.ofNat 4 k) = pageAddr 0xEB#8 q := by
  rw [← h, BitVec.ofNat_toNat, BitVec.setWidth_eq, ddAddr, ddParams_fields]

theorem encodeOp_decodeSdCmd (q : Byte) : encodeOp (decodeSdCmd q) = .readByte (pageAddr 0xEB#8 q) := by
  have hlt := (sdCmd q).isLt
  unfold decodeSdCmd
  split
  case h_8 =>
    simp only [imp_false] at *
    exact congrArg BusOp.readByte (sdAddr_fields (k := 7) (by omega))
  all_goals exact congrArg BusOp.readByte (sdAddr_fields ‹_›)

theorem encodeOp_decodeDdCmd (q : Byte) : encodeOp (decodeDdCmd q) = .readByte (pageAddr 0xEB#8 q) := by
  unfold decodeDdCmd
  split
  case h_9 =>
    simp only [imp_false] at *
    rw [encodeOp, ddAddr, ← ddCmd_eq_undefCode q (by omega), ddParams_fields]
  all_goals exact congrArg BusOp.readByte (ddAddr_fields ‹_›)

theorem encodeOp_decodeSd (t : BitVec 2) (q : Byte) :
    encodeOp (decodeSd t q) = .readByte (pageAddr (0xE8#8 + t.setWidth 8) q) := by
  match t with
  | 0#2 | 1#2 | 2#2 => rfl
  | 3#2 => exact encodeOp_decodeSdCmd q

theorem encodeOp_decodeDd (t : BitVec 2) (q : Byte) :
    encodeOp (decodeDd t q) = .readByte (pageAddr (0xE8#8 + t.setWidth 8) q) := by
  match t with
  | 0#2 | 1#2 => rfl
  | 2#2 => exact congrArg (fun r => BusOp.readByte (pageAddr 0xEA#8 r)) (orderParams_fields q)
  | 3#2 => exact encodeOp_decodeDdCmd q

theorem encodeOp_decodeRead (v : Variant) (a : Addr) : encodeOp (decodeRead v a) = .readByte a := by
  unfold decodeRead
  split
  case isTrue ha =>
    cases v with
    | sd => rw [encodeOp_decodeSd, pageAddr_fields ha]
    | dd => rw [encodeOp_decodeDd, pageAddr_fields ha]
  case isFalse => rfl

/-- No bit of a bus operation is lost in decoding (R81, R84). -/
theorem encodeOp_decodeOp (v : Variant) (op : BusOp) : encodeOp (decodeOp v op) = op := by
  cases op with
  | readByte a => exact encodeOp_decodeRead v a
  | writeByte | readWord | writeWord => rfl

/-! ### What is decoded is well-formed -/

theorem decodeSd_wf (t : BitVec 2) (q : Byte) : (decodeSd t q).wf .sd = true := by
  unfold decodeSd decodeSdCmd
  repeat' split
  all_goals rfl

theorem decodeDd_wf (t : BitVec 2) (q : Byte) : (decodeDd t q).wf .dd = true := by
  unfold decodeDd decodeDdCmd
  repeat' split
  all_goals rfl

theorem Instr.wf_rd (v : Variant) (a : Addr) : (Instr.rd a).wf v = !inFloppy a := rfl

theorem decodeRead_wf (v : Variant) (a : Addr) : (decodeRead v a).wf v = true := by
  unfold decodeRead
  split
  case isTrue =>
    cases v with
    | sd => exact decodeSd_wf _ _
    | dd => exact decodeDd_wf _ _
  case isFalse ha => simpa [Instr.wf_rd] using ha

theorem decodeOp_wf (v : Variant) (op : BusOp) : (decodeOp v op).wf v = true := by
  cases op with
  | readByte a => exact decodeRead_wf v a
  | writeByte | readWord | writeWord => rfl

/-! ### Decoding what was encoded -/

theorem decodeRead_sd_pageAddr {page : Byte} (q : Byte) (hlo : 0xE8 ≤ page.toNat) (hhi : page.toNat ≤ 0xEB) :
    decodeRead .sd (pageAddr page q) = decodeSd (page.extractLsb' 0 2) q := by
  simp [decodeRead, inFloppy_pageAddr hlo hhi]

theorem decodeRead_dd_pageAddr {page : Byte} (q : Byte) (hlo : 0xE8 ≤ page.toNat) (hhi : page.toNat ≤ 0xEB) :
    decodeRead .dd (pageAddr page q) = decodeDd (page.extractLsb' 0 2) q := by
  simp [decodeRead, inFloppy_pageAddr hlo hhi]

theorem decodeRead_sdAddr (x d b : Bool) (cmd : BitVec 3) (p : BitVec 2) :
    decodeRead .sd (sdAddr x d b cmd p) = decodeSdCmd (sdParams x d b cmd p) :=
  decodeRead_sd_pageAddr _ (by decide) (by decide)

theorem decodeRead_ddAddr (mux cmd : BitVec 4) : decodeRead .dd (ddAddr mux cmd) = decodeDdCmd (ddParams mux cmd) :=
  decodeRead_dd_pageAddr _ (by decide) (by decide)

theorem decodeDdCmd_undefCode (mux : BitVec 4) (low : BitVec 3) :
    decodeDdCmd (ddParams mux (undefCode low)) = .ddUndef mux low := by
  have h := eight_le_undefCode low
  unfold decodeDdCmd
  simp only [ddCmd_ddParams, ddMux_ddParams, extractLow_ddParams_undefCode]
  split
  case h_9 => rfl
  all_goals omega

/-- A well-formed row of a controller is a row of the installed one. -/
theorem Instr.wf_variant {v w : Variant} {i : Instr} (h : i.wf v = true) (hi : i.needsVariant = some w) : v = w := by
  have hv := (Bool.and_eq_true_iff.1 h).1
  rw [Instr.variantOk, hi] at hv
  exact (beq_iff_eq.1 hv).symm

/-- Decoding gives back every well-formed instruction (R95). -/
theorem decodeOp_encodeOp {v : Variant} {i : Instr} (h : i.wf v = true) : decodeOp v (encodeOp i) = i := by
  cases i with
  | rd a =>
    have ha : inFloppy a = false := by simpa [Instr.wf_rd] using h
    simp [encodeOp, decodeOp, decodeRead, ha]
  | wr | rdw | wrw => rfl
  | sdProm | sdProm1 | sdWdata =>
    cases Instr.wf_variant h rfl
    exact decodeRead_sd_pageAddr _ (by decide) (by decide)
  | sdSel | sdWrt | sdStpff | sdIntr | sdNop | sdRsf | sdReset | sdStpdir =>
    cases Instr.wf_variant h rfl
    simp [encodeOp, decodeOp, decodeRead_sdAddr, decodeSdCmd]
  | ddProm | ddWdata =>
    cases Instr.wf_variant h rfl
    exact decodeRead_dd_pageAddr _ (by decide) (by decide)
  | ddOrder =>
    cases Instr.wf_variant h rfl
    simp [encodeOp, decodeOp, orderAddr, decodeRead_dd_pageAddr, decodeDd]
  | ddNop | ddRsf | ddIntr2 | ddIntr3 | ddBody | ddMotor | ddWrt | ddReset =>
    cases Instr.wf_variant h rfl
    simp [encodeOp, decodeOp, decodeRead_ddAddr, decodeDdCmd]
  | ddUndef mux low =>
    cases Instr.wf_variant h rfl
    exact (decodeRead_ddAddr mux _).trans (decodeDdCmd_undefCode mux low)

end Sys2Proof

namespace Sys2Proof.Proofs.Encoding
open Sys2Proof

/-- Settles O1: each address is decoded by its page and the fields of its low byte. -/
theorem exampleAddressesDecode : Obligations.ExampleAddressesDecode := by
  unfold Obligations.ExampleAddressesDecode
  decide

/-- Settles O3: an address of the floppy range is put together again from its page and the fields of its low byte. -/
theorem encodeOfDecodeIsIdentity : Obligations.EncodeOfDecodeIsIdentity :=
  fun v op => ⟨encodeOp_decodeOp v op, decodeOp_wf v op⟩

end Sys2Proof.Proofs.Encoding
end

section
/-! A controller row and the byte read of its address are one operation (30_encoding.md R95, 40_bus_router.md R100,
R104). -/

namespace Sys2Proof.Machine

/-- What a byte read inside the floppy range decodes to is a controller row, not `rd` (R82, R94). -/
theorem needsVariant_decodeRead {v : Variant} {a : Addr} (ha : inFloppy a = true) :
    (decodeRead v a).needsVariant ≠ none := by
  intro h
  have hwf := decodeRead_wf v a
  have henc := encodeOp_decodeRead v a
  cases hi : decodeRead v a with
  | rd a' =>
    rw [hi] at hwf henc
    cases henc
    simp [Instr.wf_rd, ha] at hwf
  | wr | rdw | wrw => simp [hi, encodeOp] at henc
  | _ => simp [hi, Instr.needsVariant] at h

theorem exec_decodeRead {a : Addr} (s : State) (ha : inFloppy a = true) :
    exec (decodeRead s.c.variant a) s = exec (.rd a) s := by
  rw [exec_controllerRow _ s (needsVariant_decodeRead ha), encodeAddr, encodeOp_decodeRead]
  rfl

end Sys2Proof.Machine

namespace Sys2Proof.Proofs.Encoding
open Sys2Proof Sys2Proof.Machine

/-- Settles O6: a row runs as the byte read of its address, and the row of an address encodes back to that address. -/
theorem controllerRowIsItsByteRead : Obligations.ControllerRowIsItsByteRead :=
  ⟨exec_controllerRow, fun _ s ha => (exec_decodeRead s ha).symm⟩

end Sys2Proof.Proofs.Encoding
end

section
/-! The model's own layouts of a bus operation, the five-byte record and the 40-bit table word, give back the operation
they were made of (assumption 11). -/

namespace Sys2Proof

/-! ### The record -/

@[simp] theorem wordOf_lowByte_highByte (w : Word16) : wordOf (lowByte w) (highByte w) = w := by
  rw [wordOf, lowByte, highByte, BitVec.extractLsb'_append_extractLsb'_eq_extractLsb' (by decide),
    BitVec.extractLsb'_eq_self]

theorem decodeRequest_encodeBytes (op : BusOp) (rest : List Byte) :
    decodeRequest (encodeBytes op ++ rest) = .ok (op, rest) := by
  cases op <;> simp [encodeBytes, decodeRequest, requestOf]

/-- The kind of a bus operation takes the two low bits of its byte. -/
theorem exists_encodeBytes_eq (op : BusOp) :
    ∃ a0 a1 kind d0 d1 : Byte, encodeBytes op = [a0, a1, kind, d0, d1] ∧ kind.toNat < 4 := by
  cases op <;> exact ⟨_, _, _, _, _, rfl, by decide⟩

/-- A well-formed instruction is read back from its record. -/
theorem decodeBytes_encode {v : Variant} {i : Instr} (rest : List Byte) (h : i.wf v = true) :
    decodeBytes v (encode i ++ rest) = .ok (i, rest) := by
  rw [decodeBytes, encode, decodeRequest_encodeBytes]
  exact congrArg (fun j => Except.ok (j, rest)) (decodeOp_encodeOp h)

/-! ### The table word -/

/-- The bit that tells the controller in byte 2 of a table word. -/
def controllerFlag : Variant → Nat
  | .sd => 0
  | .dd => 128

/-- A table word is its record as a number, with the controller's flag added to byte 2. -/
theorem encodeTableWord_of_encode {v : Variant} {i : Instr} {a0 a1 kind d0 d1 : Byte}
    (h : encode i = [a0, a1, kind, d0, d1]) :
    encodeTableWord v i = a0.toNat + a1.toNat * 2 ^ 8 + (kind.toNat + controllerFlag v) * 2 ^ 16 + d0.toNat * 2 ^ 24 +
      d1.toNat * 2 ^ 32 := by
  cases v with
  | sd => simp [encodeTableWord, h, controllerFlag]
  | dd => simp [encodeTableWord, h, controllerFlag]; omega

theorem byteAt_eq {w k : Nat} {b : Byte} (h : w / 256 ^ k % 256 = b.toNat) : byteAt w k = b :=
  BitVec.eq_of_toNat_eq ((BitVec.toNat_ofNat ..).trans h)

theorem byteAt_and_0x7F_eq {w k : Nat} {b : Byte} (h : w / 256 ^ k % 128 = b.toNat) : byteAt w k &&& 0x7F#8 = b := by
  have hlow : w / 256 ^ k % 256 &&& 127 = w / 256 ^ k % 256 % 128 := Nat.and_two_pow_sub_one_eq_mod _ 7
  apply BitVec.eq_of_toNat_eq
  rw [BitVec.toNat_and, byteAt, BitVec.toNat_ofNat]
  exact hlow.trans (by omega)

theorem tableRequest_of_decodeRequest {w : Nat} {op : BusOp} {rest : List Byte} (hw : w < 2 ^ 40)
    (h : decodeRequest [byteAt w 0, byteAt w 1, byteAt w 2 &&& 0x7F#8, byteAt w 3, byteAt w 4] = .ok (op, rest)) :
    tableRequest 40 w = some op := by
  unfold tableRequest
  dsimp only
  rw [if_neg (by decide), Nat.mod_eq_of_lt hw, h]

theorem tableVariant_of_flag {w : Nat} {v : Variant} (hw : w < 2 ^ 40)
    (h : w / 2 ^ 23 % 2 = controllerFlag v / 128) : tableVariant 40 w = v := by
  unfold tableVariant
  rw [Nat.mod_eq_of_lt hw, Nat.testBit_eq_decide_div_mod_eq, h]
  cases v <;> rfl

/-- A table word gives back the controller it is meant for and the bus operation of its instruction. -/
theorem encodeTableWord_fields (v : Variant) (i : Instr) :
    tableVariant 40 (encodeTableWord v i) = v ∧ tableRequest 40 (encodeTableWord v i) = some (encodeOp i) := by
  obtain ⟨a0, a1, kind, d0, d1, henc, hkind⟩ := exists_encodeBytes_eq (encodeOp i)
  have hw := encodeTableWord_of_encode (v := v) (i := i) henc
  have hflag : controllerFlag v = 0 ∨ controllerFlag v = 128 := by cases v <;> decide
  generalize encodeTableWord v i = w at hw ⊢
  have hlt : w < 2 ^ 40 := by omega
  have h0 : byteAt w 0 = a0 := byteAt_eq (by omega)
  have h1 : byteAt w 1 = a1 := byteAt_eq (by omega)
  have h2 : byteAt w 2 &&& 0x7F#8 = kind := byteAt_and_0x7F_eq (by omega)
  have h3 : byteAt w 3 = d0 := byteAt_eq (by omega)
  have h4 : byteAt w 4 = d1 := byteAt_eq (by omega)
  refine ⟨tableVariant_of_flag hlt (by omega), tableRequest_of_decodeRequest (rest := []) hlt ?_⟩
  rw [h0, h1, h2, h3, h4, ← henc]
  simpa using decodeRequest_encodeBytes (encodeOp i) []

/-- A well-formed instruction is read back from its table word. -/
theorem decodeTableWord_encodeTableWord {v : Variant} {i : Instr} (h : i.wf v = true) :
    decodeTableWord 40 (encodeTableWord v i) = some i := by
  obtain ⟨hv, hop⟩ := encodeTableWord_fields v i
  rw [decodeTableWord, hv, hop, Option.map_some, decodeOp_encodeOp h]

end Sys2Proof

namespace Sys2Proof.Proofs.Encoding
open Sys2Proof

/-- Settles O2: an instruction's row, its record and its table word each give back the bus operation they were made of,
and a well-formed instruction is what its bus operation decodes to. -/
theorem decodeOfEncodeIsIdentity : Obligations.DecodeOfEncodeIsIdentity :=
  fun _ _ rest h => ⟨decodeOp_encodeOp h, decodeBytes_encode rest h, decodeTableWord_encodeTableWord h⟩

end Sys2Proof.Proofs.Encoding
end

section
/-! A table word placed as the next input (assumptions 11 and 12). -/

namespace Sys2Proof.Machine

/-- The state a placed operation runs on: the controller it is meant for installed, and no fault recorded (assumption
12). -/
def State.readyFor (v : Variant) (s : State) : State :=
  { if s.c.variant = v then s else installController v s with fault := none, pending := s.pending }

@[simp] theorem State.readyFor_fault (v : Variant) (s : State) : (s.readyFor v).fault = none := rfl

@[simp] theorem State.readyFor_pending (v : Variant) (s : State) : (s.readyFor v).pending = s.pending := rfl

@[simp] theorem State.readyFor_variant (v : Variant) (s : State) : (s.readyFor v).c.variant = v := by
  unfold State.readyFor
  split
  case isTrue h => exact h
  case isFalse => rfl

@[simp] theorem State.readyFor_cfg (v : Variant) (s : State) : (s.readyFor v).cfg = s.cfg := by
  unfold State.readyFor
  split <;> rfl

@[simp] theorem State.readyFor_ram (v : Variant) (s : State) : (s.readyFor v).ram = s.ram := by
  unfold State.readyFor
  split <;> rfl

/-- A live state with the controller already installed is ready as it stands. -/
theorem State.readyFor_eq_self {v : Variant} {s : State} (hv : s.c.variant = v) (hf : s.fault = none) :
    s.readyFor v = s := by
  rw [State.readyFor, if_pos hv, ← hf]

/-- A placed operation is the next one the step runs. -/
theorem step_withOp (v : Variant) (op : BusOp) (s : State) :
    step (s.withOp v op) = exec (decodeOp v op) (s.readyFor v) := by
  have hv : (s.withOp v op).c.variant = v := s.readyFor_variant v
  rw [step_of_pending_bus (s := s.withOp v op) rfl, hv]
  rfl

/-- A placed table word that holds an instruction is the next one the step runs. -/
theorem step_withFetchWord {nbits w : Nat} {i : Instr} (s : State) (h : decodeTableWord nbits w = some i) :
    step (s.withFetchWord nbits w) = exec i (s.readyFor (tableVariant nbits w)) := by
  obtain ⟨op, hop, rfl⟩ := Option.map_eq_some_iff.1 h
  unfold State.withFetchWord
  rw [hop]
  exact step_withOp _ op s

end Sys2Proof.Machine

namespace Sys2Proof.Proofs.Encoding
open Sys2Proof.Machine

/-- Settles O5: the word's operation stands first in the queue of a state made ready for its controller. -/
theorem placedWordRunsNext : Obligations.PlacedWordRunsNext := by
  intro s nbits w i h
  refine ⟨s.readyFor (tableVariant nbits w), step_withFetchWord s h, ?_⟩
  simpa using fun hv hf => State.readyFor_eq_self hv hf

end Sys2Proof.Proofs.Encoding
end

section
/-! The step pseudo-operations (30_encoding.md R96; 45_drive_stepping.md R240 to R243): what each command of theirs does
to the selected drive, and the head's move over the whole sequence. -/

namespace Sys2Proof.Machine
open Sys2Proof.Claims

variable {s t : State} {i : Instr} {d : Drive}

/-! ### Runs of instructions -/

@[simp] theorem runInstrs_nil (s : State) : runInstrs [] s = some s := rfl

theorem runInstrs_cons {rest : List Instr} (h : exec i s = .next t) : runInstrs (i :: rest) s = runInstrs rest t := by
  simp only [runInstrs, h]

/-! ### Commands that leave a selected drive and no fault -/

/-- Instruction `i` takes a step from `s` to `t` that faults on nothing, keeps the installed controller and the
selection, and leaves the selected drive as `d`. -/
structure LeavesSel (i : Instr) (s : State) (d : Drive) (t : State) : Prop where
  next     : exec i s = .next t
  live     : t.fault = none
  variant  : t.c.variant = s.c.variant
  selected : t.c.selectedDrive = s.c.selectedDrive
  selOk    : t.SelOk
  drive    : t.sel = d

theorem LeavesSel.onSd (h : LeavesSel i s d t) (hs : OnSd s) : OnSd t :=
  ⟨h.live, h.variant.trans hs.sd, h.selOk⟩

theorem LeavesSel.onDd (h : LeavesSel i s d t) (hs : OnDd s) : OnDd t :=
  ⟨h.live, h.variant.trans hs.dd, h.selOk⟩

theorem State.SelOk.setSel (h : s.SelOk) (d : Drive) : (s.setSel d).SelOk :=
  h.trans_eq (List.length_set ..).symm

theorem State.SelOk.updateSel (h : s.SelOk) (r : Bool) : (s.updateSel r).SelOk := h.setSel _

/-- An SD command without a data read returns a status byte and ends where its effect does (R123, R124). -/
theorem sdCommand_ok (a : Addr) (b : Bool) (after : State → State) (s : State) :
    ∃ x, sdCommand a false b (fun s => .ok () (after s)) s = .ok x (after (s.beginDispatch.updateSel b)) := by
  cases b <;> exact ⟨_, rfl⟩

/-- An SD command without a data read, whose effect is a function of the selected drive, applies it to the updated drive
(R123). -/
theorem sdCommand_leavesSel (hs : OnSd s) {a : Addr} {b : Bool} (f : Drive → Drive)
    (hi : exec i s = onController .sd a (sdCommand a false b fun s => .ok () (s.setSel (f s.sel))) s) :
    ∃ t, LeavesSel i s (f (updated b s)) t := by
  have hbegin : s.beginDispatch.SelOk := hs.sel
  have hupdate := hbegin.updateSel b
  obtain ⟨x, hx⟩ := sdCommand_ok a b (fun s => s.setSel (f s.sel)) s
  rw [onController_own _ _ _ _ hs.live hs.sd, hx] at hi
  exact ⟨_,
    { next := hi
      live := hs.live
      variant := rfl
      selected := rfl
      selOk := hupdate.setSel _
      drive := (State.setSel_sel _ _ hupdate).trans (congrArg f (State.updateSel_sel _ b hbegin)) }⟩

theorem sdStpff_leavesSel (hs : OnSd s) (x b : Bool) (p : BitVec 2) :
    ∃ t, LeavesSel (.sdStpff x false b p) s ((updated b s).setStepFlipFlop (sdBit p)) t :=
  sdCommand_leavesSel hs (Drive.setStepFlipFlop (sdBit p)) rfl

theorem sdStpdir_leavesSel (hs : OnSd s) (x b : Bool) (p : BitVec 2) :
    ∃ t, LeavesSel (.sdStpdir x false b p) s ((updated b s).setStepDirection (directionOf (sdBit p))) t :=
  sdCommand_leavesSel hs (Drive.setStepDirection (directionOf (sdBit p))) rfl

theorem State.orderDirection_of_not_ready (dir : Bool) (h : s.sel.writeReady = false) :
    s.orderDirection dir = s.stepDirection (directionOf dir) := by
  rw [State.orderDirection, h]
  rfl

/-- A DD order for the drive already selected, when it is not write-ready: direction, then step, on that drive (R153,
R300). -/
theorem ddOrder_leavesSel (hs : OnDd s) (hready : s.sel.writeReady = false) {ds : BitVec 4}
    (hds : oneHot ds = s.c.selectedDrive) (den : Bool) (side : BitVec 1) (dir step : Bool) :
    ∃ t, LeavesSel (.ddOrder den side dir step ds) s
      ((s.sel.setStepDirection (directionOf dir)).setStepFlipFlop step) t := by
  have hbegin : (s.beginDispatch.setOrder den side).SelOk := hs.sel
  have hdirection := hbegin.setSel (s.sel.setStepDirection (directionOf dir))
  have hnext : exec (.ddOrder den side dir step ds) s = finishByte (ddOrderRead den side dir step ds s) :=
    onController_own _ _ _ _ hs.live hs.dd
  have hready' : (s.beginDispatch.setOrder den side).sel.writeReady = false := hready
  rw [ddOrderRead, State.orderDirection_of_not_ready dir hready', hds] at hnext
  exact ⟨_,
    { next := hnext
      live := hs.live
      variant := rfl
      selected := rfl
      selOk := hdirection.setSel _
      drive := (State.setSel_sel _ _ hdirection).trans
        (congrArg (Drive.setStepFlipFlop step) (State.setSel_sel _ _ hbegin)) }⟩

/-! ### The sequences -/

/-- The track one step away in a direction, held at the ends (R241). -/
def trackAfter : StepDirection → Nat → Nat
  | .inward, t => min (t + 1) 34
  | .outward, t => t - 1

/-- Clearing a set latch moves the head by one track (R240, R241). -/
theorem Drive.setStepFlipFlop_falling_currentTrack (h : d.stepFlipFlop = true) :
    (d.setStepFlipFlop false).currentTrack = trackAfter d.stepDirection d.currentTrack := by
  cases hd : d.stepDirection <;> simp [Drive.setStepFlipFlop_eq, h, hd, trackAfter]

/-- Setting the latch moves nothing (R243). -/
@[simp] theorem Drive.setStepFlipFlop_rising_currentTrack (d : Drive) :
    (d.setStepFlipFlop true).currentTrack = d.currentTrack := by
  simp [Drive.setStepFlipFlop_eq]

@[simp] theorem Drive.setStepFlipFlop_stepFlipFlop (b : Bool) (d : Drive) :
    (d.setStepFlipFlop b).stepFlipFlop = b := by
  simp [Drive.setStepFlipFlop_eq]

/-- An SD step pseudo-operation, in the direction of `p` (R96). -/
theorem runInstrs_sdStep (hs : OnSd s) (p : BitVec 2) :
    ∃ t, runInstrs [.sdStpdir false false false p, .sdStpff false false false 1#2, .sdStpff false false false 0#2] s =
        some t ∧
      t.fault = none ∧ t.c.selectedDrive = s.c.selectedDrive ∧
      t.sel.currentTrack = trackAfter (directionOf (sdBit p)) s.sel.currentTrack := by
  obtain ⟨t₁, h₁⟩ := sdStpdir_leavesSel hs false false p
  obtain ⟨t₂, h₂⟩ := sdStpff_leavesSel (h₁.onSd hs) false false 1#2
  obtain ⟨t₃, h₃⟩ := sdStpff_leavesSel (h₂.onSd (h₁.onSd hs)) false false 0#2
  have hlatch : t₂.sel.stepFlipFlop = true := by simp [h₂.drive, sdBit]
  have hdirection : t₂.sel.stepDirection = directionOf (sdBit p) := by
    simp [h₂.drive, h₁.drive, Drive.setStepDirection]
  have htrack : t₂.sel.currentTrack = s.sel.currentTrack := by
    simp [h₂.drive, h₁.drive, Drive.setStepDirection, sdBit]
  refine ⟨t₃, ?_, h₃.live, h₃.selected.trans (h₂.selected.trans h₁.selected), ?_⟩
  · rw [runInstrs_cons h₁.next, runInstrs_cons h₂.next, runInstrs_cons h₃.next, runInstrs_nil]
  · have hfall := Drive.setStepFlipFlop_falling_currentTrack (d := updated false t₂) (by simp [hlatch])
    simpa [h₃.drive, hdirection, htrack, sdBit] using hfall

theorem oneHot_oneHotInv {u : Nat} (hlo : 1 ≤ u) (hhi : u ≤ 4) : oneHot (oneHotInv u) = u := by
  interval_cases u <;> rfl

/-- A DD step pseudo-operation for the selected unit, in the direction of `dir` (R96). -/
theorem runInstrs_ddStep (hs : OnDd s) (hlo : 1 ≤ s.c.selectedDrive) (hhi : s.c.selectedDrive ≤ 4)
    (hready : s.sel.writeReady = false) (side : BitVec 1) (den dir : Bool) :
    ∃ t, runInstrs [.ddOrder den side dir true (oneHotInv s.c.selectedDrive),
          .ddOrder den side dir false (oneHotInv s.c.selectedDrive)] s = some t ∧
      t.fault = none ∧ t.c.selectedDrive = s.c.selectedDrive ∧
      t.sel.currentTrack = trackAfter (directionOf dir) s.sel.currentTrack := by
  have hds := oneHot_oneHotInv hlo hhi
  obtain ⟨t₁, h₁⟩ := ddOrder_leavesSel hs hready hds den side dir true
  have hready₁ : t₁.sel.writeReady = false := by simpa [h₁.drive, Drive.setStepDirection] using hready
  obtain ⟨t₂, h₂⟩ := ddOrder_leavesSel (h₁.onDd hs) hready₁ (hds.trans h₁.selected.symm) den side dir false
  refine ⟨t₂, ?_, h₂.live, h₂.selected.trans h₁.selected, ?_⟩
  · rw [runInstrs_cons h₁.next, runInstrs_cons h₂.next, runInstrs_nil]
  · rw [h₂.drive, Drive.setStepFlipFlop_falling_currentTrack (by simp [h₁.drive, Drive.setStepDirection])]
    simp [h₁.drive, Drive.setStepDirection]

end Sys2Proof.Machine

namespace Sys2Proof.Proofs.Encoding
open Sys2Proof.Machine

/-- Settles O44: each sequence sets the direction, raises the latch and lets it fall, and the falling edge moves the
head. -/
theorem stepPseudoOpsMoveOneTrack : Obligations.StepPseudoOpsMoveOneTrack :=
  ⟨fun _ hs => ⟨runInstrs_sdStep hs 1#2, runInstrs_sdStep hs 0#2⟩,
    fun _ side den hs hlo hhi hready =>
      ⟨runInstrs_ddStep hs hlo hhi hready side den true,
        runInstrs_ddStep hs hlo hhi hready side den false⟩⟩

end Sys2Proof.Proofs.Encoding
end

section
/-! The four bus rows while no fault is recorded (40_bus_router.md R100 to R103). -/

namespace Sys2Proof.Machine

variable {s : State}

theorem exec_rd_live (a : Addr) (hl : s.fault = none) : exec (.rd a) s = finishByte (busRead a s) := by
  rw [exec_rd, execRd, whenLive_live s _ hl]

theorem exec_wr_live (a : Addr) (v : Byte) (hl : s.fault = none) :
    exec (.wr a v) s = .next { busWrite a v s with result := .none } := by
  rw [exec_wr, execWr, whenLive_live s _ hl]

theorem exec_rdw_live (a : Addr) (hl : s.fault = none) : exec (.rdw a) s = finishWord (busReadWord a s) := by
  rw [exec_rdw, execRdw, whenLive_live s _ hl]

theorem exec_wrw_live (a : Addr) (w : Word16) (hl : s.fault = none) :
    exec (.wrw a w) s = .next { busWriteWord a w s with result := .none } := by
  rw [exec_wrw, execWrw, whenLive_live s _ hl]

end Sys2Proof.Machine
end

section
/-! A byte read outside the floppy range, by the region of its address (20_memory.md R61 to R63, 40_bus_router.md R100,
R105). -/

namespace Sys2Proof.Machine

variable {s : State} {a : Addr}

theorem inFloppy_iff (a : Addr) : inFloppy a = true ↔ 0xE800 ≤ a.toNat ∧ a.toNat ≤ 0xEBFF := by
  simp only [inFloppy, Bool.and_eq_true, decide_eq_true_eq]

theorem route_of_outside (cfg : Config) (h : inFloppy a = false) : route cfg a = routeOutside cfg a := by
  simp [route, h]

@[simp] theorem readOutside_c (g : Region) (a : Addr) (s : State) : (readOutside g a s).2.c = s.c := by
  cases g <;> rfl

@[simp] theorem readOutside_ram (g : Region) (a : Addr) (s : State) : (readOutside g a s).2.ram = s.ram := by
  cases g <;> rfl

@[simp] theorem readOutside_fault (g : Region) (a : Addr) (s : State) : (readOutside g a s).2.fault = s.fault := by
  cases g <;> rfl

/-- The byte read of an address outside the floppy range. -/
theorem exec_rd_outside (hl : s.fault = none) (ha : inFloppy a = false) :
    exec (.rd a) s = .next { (readOutside (route s.cfg a) a s).2 with
      result := .byte (readOutside (route s.cfg a) a s).1 } := by
  rw [exec_rd_live a hl, route_of_outside s.cfg ha]
  simp [busRead, ha]

end Sys2Proof.Machine

namespace Sys2Proof.Proofs.Bus
open Sys2Proof Sys2Proof.Machine Sys2Proof.Claims

/-- A step of elementary moves that leaves the controller as it was touches no drive. -/
theorem frame_of_moves {s t : State} (hm : Moves s t) (hc : t.c = s.c) : Frame [] s t :=
  { FixedKept.moves hm with
    ram := fun a => by rw [hm.ram_eq]
    others := fun u _ => by rw [hc] }

/-- Settles O16: the read answers what `readOutside` makes of the address's region, which changes neither RAM nor the
controller. -/
theorem readOutsideFloppyHasNoEffect : Obligations.ReadOutsideFloppyHasNoEffect := by
  intro s a hl ha
  refine ⟨_, exec_rd_outside hl ha, (readOutside_fault _ a s).trans hl, readOutside_c _ a s, readOutside_ram _ a s,
    frame_of_moves ((Moves.readOutside _ a s).setResult _) (readOutside_c _ a s), fun hr => ?_, fun hr => ?_,
    fun hr => ?_⟩
  all_goals rw [hr]
  · exact ⟨rfl, rfl⟩
  · exact ⟨⟨_, rfl⟩, rfl⟩
  · exact ⟨⟨_, rfl⟩, rfl⟩

end Sys2Proof.Proofs.Bus
end

section
/-! A byte write stores, calls the display or is discarded, by the region of its address (20_memory.md R61 to R63, R75,
40_bus_router.md R101). -/

namespace Sys2Proof.Machine

variable {s : State}

/-- The region of an address with the bounds of the four ranges written out (R62, R63). -/
theorem route_eq (cfg : Config) (a : Addr) :
    route cfg a =
      if 0xE800 ≤ a.toNat ∧ a.toNat ≤ 0xEBFF then .floppy
      else if cfg.fwLo.toNat ≤ a.toNat ∧ a.toNat ≤ cfg.fwHi.toNat then .firmware
      else if cfg.dispLo.toNat ≤ a.toNat ∧ a.toNat ≤ cfg.dispHi.toNat then .display
      else .ram := by
  simp only [route, inFloppy_iff, routeOutside, BitVec.le_def]

/-- A byte write reaches RAM and the display alone. -/
theorem busWrite_eq (a : Addr) (v : Byte) (s : State) :
    busWrite a v s = { s with
      ram := if route s.cfg a = .ram then s.ram.write a v else s.ram
      calls := if route s.cfg a = .display then .writeScreenByte a v :: s.calls else s.calls } := by
  unfold busWrite
  split <;> simp [*, State.called]

@[simp] theorem busWrite_cfg (a : Addr) (v : Byte) (s : State) : (busWrite a v s).cfg = s.cfg := by
  rw [busWrite_eq]

@[simp] theorem busWrite_c (a : Addr) (v : Byte) (s : State) : (busWrite a v s).c = s.c := by
  rw [busWrite_eq]

@[simp] theorem busWrite_fault (a : Addr) (v : Byte) (s : State) : (busWrite a v s).fault = s.fault := by
  rw [busWrite_eq]

theorem busWrite_calls (a : Addr) (v : Byte) (s : State) :
    (busWrite a v s).calls = if route s.cfg a = .display then .writeScreenByte a v :: s.calls else s.calls := by
  rw [busWrite_eq]

theorem busWrite_wf (a : Addr) (v : Byte) (h : s.ram.wf = true) : (busWrite a v s).ram.wf = true := by
  rw [busWrite_eq]
  dsimp only
  split
  · exact Memory.write_wf s.ram a v h
  · exact h

theorem busWrite_read_same (a : Addr) (v : Byte) (h : s.ram.wf = true) :
    (busWrite a v s).ram.read a = if route s.cfg a = .ram then v else s.ram.read a := by
  rw [busWrite_eq]
  dsimp only
  split
  · exact Memory.read_write_same s.ram a v h
  · rfl

theorem busWrite_read_other {a b : Addr} (v : Byte) (h : b ≠ a) : (busWrite a v s).ram.read b = s.ram.read b := by
  rw [busWrite_eq]
  dsimp only
  split
  · exact Memory.read_write_other s.ram a b v h
  · rfl

end Sys2Proof.Machine

namespace Sys2Proof.Proofs.Bus
open Sys2Proof Sys2Proof.Machine

/-- Settles O17: the bounds of the four ranges, and the rules of `busWrite`. -/
theorem byteWriteGoesWhereItsRegionSays : Obligations.ByteWriteGoesWhereItsRegionSays :=
  ⟨fun cfg a => ⟨inFloppy_iff a, route_eq cfg a⟩, fun s a v hl hwf =>
    ⟨_, exec_wr_live a v hl, (busWrite_fault a v s).trans hl, rfl, busWrite_c a v s, fun _ => busWrite_read_other v,
      busWrite_read_same a v hwf, busWrite_calls a v s⟩⟩

end Sys2Proof.Proofs.Bus
end

section
/-! A word write is two byte writes (20_memory.md R65, R67, 40_bus_router.md R103). -/

namespace Sys2Proof.Machine

variable {s : State}

/-- The two bytes of a word share an address only at the end of the address space (R67). -/
theorem second_ne_self {a : Addr} (h : a ≠ 0xFFFF#16) : second a ≠ a := by
  rw [second, if_neg h]
  bv_omega

/-- A write does not read the last result. -/
theorem busWrite_setResult (a : Addr) (v : Byte) (s : State) (x : BusResult) :
    busWrite a v { s with result := x } = { busWrite a v s with result := x } := by
  simp only [busWrite_eq]

/-- The write of the high byte after the write of the low byte ends the word write (R103). -/
theorem exec_wr_second (a : Addr) (w : Word16) (hl : s.fault = none) :
    exec (.wr (second a) (highByte w)) { busWrite a (lowByte w) s with result := .none } = exec (.wrw a w) s := by
  have hl' : { busWrite a (lowByte w) s with result := .none }.fault = none := (busWrite_fault a _ s).trans hl
  rw [exec_wr_live _ _ hl', busWrite_setResult, exec_wrw_live a w hl, busWriteWord]

end Sys2Proof.Machine

namespace Sys2Proof.Proofs.Bus
open Sys2Proof Sys2Proof.Machine

/-- Settles O20: the two byte writes run one after the other, and each byte is read back by the rules of `busWrite`, the
low one across the write of the high one. -/
theorem wordWriteIsTwoByteWrites : Obligations.WordWriteIsTwoByteWrites := by
  intro s a w hl hwf
  have hrun := exec_wrw_live a w hl
  refine ⟨_, _, exec_wr_live a (lowByte w) hl, (exec_wr_second a w hl).trans hrun, hrun, ?_, ?_, rfl, ?_, ?_, ?_⟩
  · simp [busWriteWord, hl]
  · simp [busWriteWord]
  · intro b hb hb'
    exact (busWrite_read_other _ hb').trans (busWrite_read_other _ hb)
  · intro hr ha
    exact (busWrite_read_other _ (second_ne_self ha).symm).trans ((busWrite_read_same a _ hwf).trans (if_pos hr))
  · intro hr
    refine (busWrite_read_same _ _ (busWrite_wf a _ hwf)).trans (if_pos ?_)
    rw [busWrite_cfg, hr]

end Sys2Proof.Proofs.Bus
end

section
/-! How a byte read ends (40_bus_router.md R100, 60_exceptions.md R270): it does not read the last result, it leaves the
fault record as it was where it answers, and it records a fault where it is abandoned. Both controllers are built from
operations that end so. -/

namespace Sys2Proof.Machine

variable {α β γ : Type}

/-- The same end, with another last result in the state it leaves. -/
def Res.setResult (x : BusResult) : Res α → Res α
  | .ok a s => .ok a { s with result := x }
  | .faulted s => .faulted { s with result := x }

/-- The end of an operation begun at `s` agrees with the fault record. -/
def Res.RecordsFault (s : State) : Res α → Prop
  | .ok _ t => t.fault = s.fault
  | .faulted t => t.fault ≠ none

/-- An operation inside a step that does not read the last result, and records a fault exactly where it is abandoned. -/
structure Regular (op : State → Res α) : Prop where
  result : ∀ s x, op { s with result := x } = (op s).setResult x
  fault  : ∀ s, (op s).RecordsFault s

namespace Regular

/-- An operation that always answers. -/
theorem ok {g : State → α} {f : State → State} (hg : ∀ s x, g { s with result := x } = g s := by intros; rfl)
    (hf : ∀ s x, f { s with result := x } = { f s with result := x } := by intros; rfl)
    (hfault : ∀ s, (f s).fault = s.fault := by intros; rfl) : Regular fun s => .ok (g s) (f s) where
  result s x := by rw [hg, hf, Res.setResult]
  fault := hfault

theorem raise (r : FaultRecord) : Regular (raise (α := α) r) where
  result _ _ := rfl
  fault _ := nofun

/-- One operation after another, which runs only if the first answers (R270). -/
theorem bind {op : State → Res α} {k : α → State → Res β} (ho : Regular op) (hk : ∀ a, Regular (k a)) :
    Regular fun s => (op s).bind k where
  result s x := by
    rw [ho.result]
    cases op s with
    | ok a t => exact (hk a).result t x
    | faulted t => rfl
  fault s := by
    have h := ho.fault s
    cases hr : op s with
    | ok a t =>
      rw [hr] at h
      have hk' := (hk a).fault t
      rw [Res.bind_ok]
      cases hr' : k a t with
      | ok b u => rw [hr'] at hk'; exact hk'.trans h
      | faulted u => rw [hr'] at hk'; exact hk'
    | faulted t => rw [hr] at h; exact h

/-- An operation in a state made ready for it. -/
theorem after {op : State → Res α} (h : Regular op) {f : State → State}
    (hf : ∀ s x, f { s with result := x } = { f s with result := x } := by intros; rfl)
    (hfault : ∀ s, (f s).fault = s.fault := by intros; rfl) : Regular fun s => op (f s) :=
  (ok (g := fun _ => ()) (hf := hf) (hfault := hfault)).bind fun _ => h

/-- An operation chosen by something other than the last result. -/
theorem choose {op : γ → State → Res α} (h : ∀ c, Regular (op c)) {g : State → γ}
    (hg : ∀ s x, g { s with result := x } = g s := by intros; rfl) : Regular fun s => op (g s) s where
  result s x := by
    rw [hg]
    exact (h (g s)).result s x
  fault s := (h (g s)).fault s

theorem callDrive (a : Addr) (f : DriveEnv → Drive → DriveDone α) : Regular (callDrive a f) where
  result s x := by
    have hsel : f (State.env { s with result := x }) (State.sel { s with result := x }) = f s.env s.sel := rfl
    cases h : f s.env s.sel with
    | ok y d calls => rw [callDrive_ok a f s y d calls h, callDrive_ok _ _ _ _ _ _ (hsel.trans h)]; rfl
    | fault e d => rw [callDrive_fault a f s e d h, callDrive_fault _ _ _ _ _ (hsel.trans h)]; rfl
  fault s := by
    cases h : f s.env s.sel with
    | ok y d calls => rw [callDrive_ok a f s y d calls h]; exact s.setSel_fault d
    | fault e d => rw [callDrive_fault a f s e d h]; exact nofun

/-! ### The SD controller -/

theorem sdResult (a : Addr) (d b : Bool) : Regular (sdResult a d b) := by
  cases d
  · cases b <;> exact ok
  · exact callDrive a _

theorem sdCommand (a : Addr) (d b : Bool) {effect : State → Res Unit} (h : Regular effect) :
    Regular (sdCommand a d b effect) :=
  h.after.bind fun _ => sdResult a d b

theorem sdSelEffect (a : Addr) (p : BitVec 2) :
    Regular fun s => if p = 0#2 then Machine.raise (.selectUnitZero a) s else .ok () (s.select p.toNat) := by
  split
  · exact raise _
  · exact ok

theorem sdCmdRead (a : Addr) (q : Byte) : Regular (sdCmdRead a q) := by
  unfold Machine.sdCmdRead
  generalize (sdCmd q).toNat = code
  match code with
  | 0 => exact sdCommand a _ _ (sdSelEffect a _)
  | 1 => exact sdCommand a _ _ ((callDrive a _).bind fun _ => ok)
  | 2 | 3 | 4 | 5 | 6 | _ + 7 => exact sdCommand a _ _ ok

theorem sdRead (a : Addr) : Regular (sdRead a) := by
  unfold Machine.sdRead
  generalize (opType a).toNat = page
  match page with
  | 0 | 1 => exact ok
  | 2 => exact (callDrive a _).after.bind fun _ => ok
  | _ + 3 => exact sdCmdRead a _

/-! ### The DD controller -/

theorem ddResult (a : Addr) (mux : BitVec 4) : Regular (ddResult a mux) := by
  unfold Machine.ddResult
  generalize mux.toNat = m
  match m with
  | 0 | 1 | 2 | 3 | _ + 5 => exact ok
  | 4 => exact callDrive a _

theorem ddCommand (a : Addr) (mux : BitVec 4) {effect : State → Res Bool} (h : Regular effect) :
    Regular (ddCommand a mux effect) :=
  h.after.bind fun
    | true => ddResult a mux
    | false => ok

theorem orderDirection (dir : Bool) : Regular fun s => .ok () (s.orderDirection dir) :=
  choose (g := fun s => s.sel.writeReady)
    (op := fun ready s => .ok () (if ready then s else s.stepDirection (directionOf dir))) fun
    | true => ok
    | false => ok

theorem ddOrderRead (den : Bool) (side : BitVec 1) (dir step : Bool) (ds : BitVec 4) :
    Regular (ddOrderRead den side dir step ds) :=
  ((orderDirection dir).after (f := fun s => s.beginDispatch.setOrder den side)).bind
    (k := fun _ s => .ok (Config.byteDraw s.draws) ((s.stepFlipFlop step).select (oneHot ds))) fun _ => ok

theorem ddCmdRead (a : Addr) (q : Byte) : Regular (ddCmdRead a q) := by
  unfold Machine.ddCmdRead
  generalize (ddCmd q).toNat = code
  match code with
  | 0 | 1 | 2 | 3 | 4 | 5 | 7 => exact ddCommand a _ ok
  | 6 => exact ddCommand a _ (callDrive a _)
  | _ + 8 => exact ddCommand a _ (raise _)

theorem ddRead (a : Addr) : Regular (ddRead a) := by
  unfold Machine.ddRead
  generalize (opType a).toNat = page
  match page with
  | 0 => exact ok
  | 1 => exact (callDrive a _).after.bind fun _ => ok
  | 2 => exact ddOrderRead _ _ _ _ _
  | _ + 3 => exact ddCmdRead a _

/-! ### The router -/

theorem controllerRead (a : Addr) : Regular (controllerRead a) := by
  refine choose (g := fun s => s.c.variant)
    (op := fun v s => match v with | .sd => Machine.sdRead a s | .dd => Machine.ddRead a s) fun v => ?_
  cases v
  · exact sdRead a
  · exact ddRead a

theorem readOutside (a : Addr) : ∀ g : Region, Regular fun s => .ok (readOutside g a s).1 (readOutside g a s).2
  | .floppy | .firmware | .display | .ram => ok

theorem busRead (a : Addr) : Regular (busRead a) := by
  unfold Machine.busRead
  cases inFloppy a
  · exact choose (g := fun s => routeOutside s.cfg a) (readOutside a)
  · exact controllerRead a

end Regular

/-! ### The byte read as an instruction -/

variable {s t : State} {a : Addr}

@[simp] theorem finishByte_setResult (r : Res Byte) (x : BusResult) : finishByte (r.setResult x) = finishByte r := by
  cases r <;> rfl

/-- A byte read does not see the last result. -/
theorem exec_rd_setResult (a : Addr) (s : State) (x : BusResult) :
    exec (.rd a) { s with result := x } = exec (.rd a) s := by
  obtain hf | ⟨r, hf⟩ := Option.eq_none_or_eq_some s.fault
  · calc exec (.rd a) { s with result := x }
        = finishByte (busRead a { s with result := x }) := exec_rd_live a hf
      _ = finishByte (busRead a s) := by rw [(Regular.busRead a).result s x, finishByte_setResult]
      _ = exec (.rd a) s := (exec_rd_live a hf).symm
  · rw [exec_halted (.rd a) hf]
    exact exec_halted (.rd a) hf

/-- How a byte read ends: with an answer and no fault, or abandoned with one. -/
theorem exec_rd_next (h : exec (.rd a) s = .next t) :
    s.fault = none ∧
      ((∃ b u, busRead a s = .ok b u ∧ u.fault = none ∧ t = { u with result := .byte b }) ∨
        ∃ u, busRead a s = .faulted u ∧ u.fault ≠ none ∧ t = { u with result := .none }) := by
  rw [exec_rd, execRd] at h
  obtain ⟨hl, h⟩ := whenLive_next h
  have hf := (Regular.busRead a).fault s
  refine ⟨hl, ?_⟩
  cases hr : busRead a s with
  | ok b u =>
    rw [hr] at h hf
    cases h
    exact .inl ⟨b, u, rfl, hf.trans hl, rfl⟩
  | faulted u =>
    rw [hr] at h hf
    cases h
    exact .inr ⟨u, rfl, hf, rfl⟩

/-- A byte read that leaves no fault returned a byte. -/
theorem exec_rd_live_result (h : exec (.rd a) s = .next t) (ht : t.fault = none) : ∃ b, t.result = .byte b := by
  obtain ⟨-, ⟨b, _, _, _, rfl⟩ | ⟨_, _, hf, rfl⟩⟩ := exec_rd_next h
  · exact ⟨b, rfl⟩
  · exact absurd ht hf

end Sys2Proof.Machine
end

section
/-! A word read is two byte reads (20_memory.md R65, R67, 40_bus_router.md R102). -/

namespace Sys2Proof

@[simp] theorem lowByte_wordOf (lo hi : Byte) : lowByte (wordOf lo hi) = lo := by
  rw [lowByte, wordOf, BitVec.extractLsb'_append_eq_of_add_le (by decide), BitVec.extractLsb'_eq_self]

@[simp] theorem highByte_wordOf (lo hi : Byte) : highByte (wordOf lo hi) = hi := by
  rw [highByte, wordOf, BitVec.extractLsb'_append_eq_of_le (by decide), BitVec.extractLsb'_eq_self]

end Sys2Proof

namespace Sys2Proof.Machine

variable {s u : State} {a : Addr}

/-- The first byte faults: the second is not read. -/
theorem exec_rdw_of_first_fault (hl : s.fault = none) (h : busRead a s = .faulted u) :
    exec (.rdw a) s = .next { u with result := .none } := by
  rw [exec_rdw_live a hl, busReadWord, h, Res.bind_faulted, finishWord_faulted]

/-- The first byte answers: the second is read in the state the first one left. -/
theorem exec_rdw_of_first_ok {lo : Byte} (hl : s.fault = none) (h : busRead a s = .ok lo u) :
    exec (.rdw a) s = finishWord ((busRead (second a) u).bind fun hi t => .ok (wordOf lo hi) t) := by
  rw [exec_rdw_live a hl, busReadWord, h, Res.bind_ok]

end Sys2Proof.Machine

namespace Sys2Proof.Proofs.Bus
open Sys2Proof Sys2Proof.Machine

/-- Settles O18: each byte read answers or is abandoned, as the fault record tells, and the second one does not see the
result the first one left. -/
theorem wordReadIsTwoByteReads : Obligations.WordReadIsTwoByteReads := by
  intro s s₁ a h₁
  obtain ⟨hl, ⟨lo, u, hu, hlive, rfl⟩ | ⟨u, hu, hfault, rfl⟩⟩ := exec_rd_next h₁
  · refine ⟨fun hf => absurd hlive hf, fun s₂ _ h₂ => ?_⟩
    replace h₂ : exec (.rd (second a)) u = .next s₂ := (exec_rd_setResult _ u _).symm.trans h₂
    rw [exec_rdw_of_first_ok hl hu]
    obtain ⟨-, ⟨hi, v, hv, hlive₂, rfl⟩ | ⟨v, hv, hfault₂, rfl⟩⟩ := exec_rd_next h₂
    · refine ⟨fun hf => absurd hlive₂ hf, fun _ => ?_⟩
      rintro _ _ ⟨⟩ ⟨⟩
      rw [hv, Res.bind_ok, finishWord_ok, wordOf]
    · exact ⟨fun _ => by rw [hv, Res.bind_faulted, finishWord_faulted], fun hf => absurd hf hfault₂⟩
  · exact ⟨fun _ => exec_rdw_of_first_fault hl hu, fun _ hf => absurd hf hfault⟩

/-- Settles O19: two byte reads (O18), each without effect (O16), answer, and the word is put together from their
bytes. -/
theorem wordReadOutsideFloppyCompletes : Obligations.WordReadOutsideFloppyCompletes := by
  intro s a hl ha ha'
  obtain ⟨t, h, hlt, hc, hram, hframe, hlo, -, -⟩ := readOutsideFloppyHasNoEffect s a hl ha
  obtain ⟨t', h', hlt', hc', hram', -, hhi, -, -⟩ := readOutsideFloppyHasNoEffect t (second a) hlt ha'
  obtain ⟨lo, hb⟩ := exec_rd_live_result h hlt
  obtain ⟨hi, hb'⟩ := exec_rd_live_result h' hlt'
  have hword := ((wordReadIsTwoByteReads s t a h).2 t' hlt h').2 hlt' lo hi hb hb'
  refine ⟨_, wordOf lo hi, hword, hlt', rfl, hc'.trans hc, hram'.trans hram, fun hr => ?_, fun hr => ?_⟩
  · cases hb.symm.trans (hlo hr).1
    exact lowByte_wordOf _ _
  · cases hb'.symm.trans (hhi (hframe.cfg ▸ hr)).1
    rw [highByte_wordOf, hram]

end Sys2Proof.Proofs.Bus
end

section
/-! What a dispatch leaves alone: the frame kept by each of its pieces, and the state of a command that does not select
(41_sd_controller.md R123, 60_exceptions.md R270, R281). -/

namespace Sys2Proof.Claims
open Sys2Proof.Machine

variable {touched : List Nat} {s t : State}

theorem Frame.beginDispatch (touched : List Nat) (s : State) : Frame touched s s.beginDispatch :=
  { FixedKept.moves (Moves.beginDispatch s) with
    ram := fun _ => rfl
    others := fun _ _ => rfl }

theorem Frame.setSel (h : Frame touched s t) (ht : t.c.selectedDrive ∈ touched) (d : Drive) :
    Frame touched s (t.setSel d) :=
  { h with
    nDrives := (List.length_set ..).trans h.nDrives
    others := fun u hu => (t.setSel_drive_other d u fun he => hu (he ▸ ht)).trans (h.others u hu) }

theorem Frame.select (h : Frame touched s t) (u : Nat) : Frame touched s (t.select u) := { h with }

/-- How a dispatch ends, with a result or with a fault, touches no drive. -/
theorem Frame.ended (h : Frame touched s t) (f : Option FaultRecord) (x : BusResult) :
    Frame touched s { t with fault := f, result := x } := { h with }

end Sys2Proof.Claims

namespace Sys2Proof.Machine
open Sys2Proof.Claims

variable {s : State} {d d' : Drive}

/-- The state inside a command begun at `s` that has not selected: the bookkeeping is done, and the selected drive stands
as `d`. -/
def State.dispatched (d : Drive) (s : State) : State := s.beginDispatch.setSel d

theorem State.beginDispatch_updateSel (b : Bool) (s : State) :
    s.beginDispatch.updateSel b = s.dispatched (updated b s) := rfl

theorem State.dispatched_sel (hs : s.SelOk) (d : Drive) : (s.dispatched d).sel = d :=
  State.setSel_sel s.beginDispatch d hs

@[simp] theorem State.dispatched_setSel (s : State) (d d' : Drive) : (s.dispatched d).setSel d' = s.dispatched d' :=
  State.setSel_setSel s.beginDispatch d d'

@[simp] theorem State.dispatched_env (s : State) (d : Drive) : (s.dispatched d).env = envOf s := rfl

/-- An effect that is a function of the selected drive. -/
theorem State.dispatched_map (hs : s.SelOk) (f : Drive → Drive) (d : Drive) :
    (s.dispatched d).setSel (f (s.dispatched d).sel) = s.dispatched (f d) := by
  rw [State.dispatched_setSel, State.dispatched_sel hs]

/-- Putting the selected drive back as it stands changes nothing, also where the selection names no drive. -/
theorem State.setSel_self (s : State) : s.setSel s.sel = s := by
  have hset : s.c.drives.set s.c.selectedDrive s.sel = s.c.drives := by
    by_cases h : s.c.selectedDrive < s.c.drives.length
    · rw [State.sel, Controller.drive, List.getD_eq_getElem _ _ h, List.set_getElem_self]
    · exact List.set_eq_of_length_le (Nat.le_of_not_lt h)
  rw [State.setSel, State.setDrive, hset]

/-- A command that does not select leaves alone all but the selected drive, however it ends. -/
theorem commandFrame_dispatched (s : State) (d : Drive) (f : Option FaultRecord) (x : BusResult) :
    CommandFrame s { s.dispatched d with fault := f, result := x } where
  frame := ((Frame.beginDispatch _ s).setSel (List.mem_singleton_self _) d).ended f x
  selected := rfl
  orders := ⟨rfl, rfl⟩
  motors := ⟨rfl, rfl⟩

/-- A fault in a command that does not select. -/
theorem endsFaulted_dispatched (hs : s.SelOk) (r : FaultRecord) (d : Drive) :
    EndsFaulted r d s { s.dispatched d with fault := some r, result := .none } where
  frame := commandFrame_dispatched s d _ _
  record := rfl
  noResult := rfl
  drive := State.dispatched_sel hs d
  noCalls := rfl

/-! ### Drive calls of a command -/

variable {α : Type} {a : Addr} {f : DriveEnv → Drive → DriveDone α}

theorem callDrive_dispatched_ok (hs : s.SelOk) {x : α} (h : f (envOf s) d = .ok x d' []) :
    callDrive a f (s.dispatched d) = .ok x (s.dispatched d') := by
  rw [callDrive_ok a f (s.dispatched d) x d' [] (by rw [State.dispatched_env, State.dispatched_sel hs, h]),
    State.dispatched_setSel]
  rfl

theorem callDrive_dispatched_fault (hs : s.SelOk) {e : DriveFault} (h : f (envOf s) d = .fault e d') :
    callDrive a f (s.dispatched d) =
      .faulted { s.dispatched d' with fault := some (recordOf d.driveNumber a e) } := by
  rw [callDrive_fault a f (s.dispatched d) e d' (by rw [State.dispatched_env, State.dispatched_sel hs, h]),
    State.dispatched_setSel, State.dispatched_sel hs]

end Sys2Proof.Machine
end

section
/-! When a drive refuses a call, and where `beginWrite` and a read sequence start (44_drive_transfer.md R203 to R211,
R221). -/

namespace Sys2Proof.Machine
open Sys2Proof.Claims

variable {env : DriveEnv} {d : Drive}

theorem Drive.TransferFrame.refl (d : Drive) : d.TransferFrame d := by
  constructor <;> rfl

/-- A byte read calls nobody. -/
theorem Drive.readByte_calls {x : Byte} {d' : Drive} {calls : List HostCall} (h : d.readByte env = .ok x d' calls) :
    calls = [] := by
  unfold Drive.readByte Drive.readPayload Drive.readCrcByte at h
  split at h
  all_goals (repeat' split at h)
  all_goals cases h <;> rfl

/-- In `READ_END` and in the write states no byte is read (R209). -/
theorem Drive.readByte_outOfSequence (env : DriveEnv)
    (h : d.state ∈ [DriveState.readEnd, .writeLeadin, .writeData, .writeCrc, .writeEnd]) :
    d.readByte env = .fault (.outOfSequence .readByte d.state) d := by
  unfold Drive.readByte
  cases hs : d.state <;> simp [hs] at h ⊢

theorem Drive.readPayload_outOfImage (cfg : Config) {buf : List Byte} (hb : d.diskBuffer = some buf)
    (hx : buf.length ≤ d.xferOffset) : d.readPayload cfg = .fault (.outOfImage d.xferOffset) d := by
  simp [Drive.readPayload, hb, hx]

/-- A read inside a sequence whose byte lies beyond the image (R221). -/
theorem Drive.readByte_readData_outOfImage (env : DriveEnv) (hs : d.state = .readData) {buf : List Byte}
    (hb : d.diskBuffer = some buf) (hx : buf.length ≤ d.xferOffset) :
    d.readByte env = .fault (.outOfImage d.xferOffset) d := by
  rw [← Drive.readPayload_outOfImage env.cfg hb hx, Drive.readByte, hs]

/-- A read in a scan state begins a sequence and streams its first byte (R206). -/
theorem Drive.readByte_scan (env : DriveEnv) (hs : isScan d.state = true) :
    d.readByte env = (d.startRead env).readPayload env.cfg := by
  unfold Drive.readByte
  cases h : d.state <;> simp [h, isScan] at hs ⊢

theorem Drive.startRead_sd (hv : env.variant = .sd) (d : Drive) :
    d.startRead env = readStarted ((d.currentTrack * 10 + d.currentSector) * 256) 256 d := by
  rw [Drive.startRead, hv]
  rfl

theorem Drive.startWrite_sd {s : State} (hv : s.c.variant = .sd) (d : Drive) :
    d.startWrite (envOf s) = writeStarted s ((d.currentTrack * 10 + d.currentSector) * 256) 256 d := by
  rw [Drive.startWrite, show (envOf s).variant = .sd from hv]
  rfl

theorem densityMismatch_sd (hv : env.variant = .sd) (d : Drive) : densityMismatch env d = false := by
  rw [densityMismatch, hv]

theorem Drive.beginWrite_scan (hm : densityMismatch env d = false) (hs : isScan d.state = true) :
    d.beginWrite env = .ok true (d.startWrite env) [] := by
  unfold Drive.beginWrite
  cases h : d.state <;> simp [h, hm, isScan] at hs ⊢

/-- A write sequence begins in a scan state only (R210). -/
theorem Drive.beginWrite_outOfSequence (hm : densityMismatch env d = false) (hs : isScan d.state = false) :
    d.beginWrite env = .fault (.outOfSequence .beginWrite d.state) d := by
  unfold Drive.beginWrite
  cases h : d.state <;> simp [h, hm, isScan] at hs ⊢

end Sys2Proof.Machine
end

section
/-! How an SD command ends (41_sd_controller.md R123, R124), by the drive its effect left. -/

namespace Sys2Proof.Machine
open Sys2Proof.Claims

variable {s t u : State} {a : Addr} {d b : Bool} {after : Drive} {i : Instr} {effect : State → Res Unit}

/-- What `Result(D, B)` makes of the state `u` it is read in (R124): it touches the selected drive alone, it completes
where the drive accepts the read, and where the drive refuses it the drive's fault is recorded (R270). -/
structure SdResultRead (a : Addr) (d b : Bool) (u t : State) : Prop where
  touches   : ∃ d' f x, t = { u.setSel d' with fault := f, result := x }
  completes : (d = true → readAccepts u.env u.sel = true) → EndsSd d b u.env u.sel t
  refused   : d = true → ∀ e d', u.sel.readByte u.env = .fault e d' →
    t = { u.setSel d' with fault := some (recordOf u.sel.driveNumber a e), result := .none }

theorem sdResult_status (a : Addr) (b : Bool) (u : State) :
    sdResult a false b u =
      .ok (if b then statusBSd u.cfg (viewOf u.c u.sel) else statusASd u.cfg (viewOf u.c u.sel)) u := by
  cases b <;> rfl

/-- The result read always ends a dispatch, in one of these ways. -/
theorem finishByte_sdResult (a : Addr) (d b : Bool) (hl : u.fault = none) (hsel : u.SelOk) :
    ∃ t, finishByte (sdResult a d b u) = .next t ∧ SdResultRead a d b u t := by
  cases d with
  | false =>
    rw [sdResult_status, finishByte_ok]
    exact ⟨_, rfl,
      { touches := ⟨u.sel, u.fault, _, by rw [State.setSel_self]⟩
        completes := fun _ => ⟨hl, fun _ => ⟨rfl, rfl⟩, nofun⟩
        refused := nofun }⟩
  | true =>
    have hcall : sdResult a true b u = callDrive a Drive.readByte u := rfl
    cases hr : u.sel.readByte u.env with
    | ok x d' calls =>
      obtain rfl := Drive.readByte_calls hr
      rw [hcall, callDrive_ok a _ u x d' [] hr, finishByte_ok]
      exact ⟨_, rfl,
        { touches := ⟨d', u.fault, _, rfl⟩
          completes := fun _ => ⟨hl, nofun, fun _ => ⟨x, d', hr, State.setSel_sel u d' hsel, rfl⟩⟩
          refused := fun _ _ _ h => by cases hr.symm.trans h }⟩
    | fault e d' =>
      rw [hcall, callDrive_fault a _ u e d' hr, finishByte_faulted]
      refine ⟨_, rfl, { touches := ⟨d', _, _, rfl⟩, completes := fun h => ?_, refused := fun _ e' d'' h => ?_ }⟩
      · obtain ⟨x, d'', hok⟩ := Drive.readByte_of_accepts u.env u.sel (h rfl)
        cases hr.symm.trans hok
      · cases hr.symm.trans h
        rfl

/-- A command whose effect answers ends with its result. -/
theorem sdCommand_of_ok (he : effect (s.dispatched (updated b s)) = .ok () u) :
    sdCommand a d b effect s = sdResult a d b u := by
  rw [sdCommand, State.beginDispatch_updateSel, he, Res.bind_ok]

/-- A command whose effect faults reads no result. -/
theorem sdCommand_of_faulted (he : effect (s.dispatched (updated b s)) = .faulted u) :
    sdCommand a d b effect s = .faulted u := by
  rw [sdCommand, State.beginDispatch_updateSel, he, Res.bind_faulted]

/-- An SD command that does not select, whose effect leaves the selected drive as `after`, reads its result from that
drive. -/
theorem sdCommand_resultRead (hs : OnSd s) (hi : exec i s = onController .sd a (sdCommand a d b effect) s)
    (he : effect (s.dispatched (updated b s)) = .ok () (s.dispatched after)) :
    ∃ t, exec i s = .next t ∧ SdResultRead a d b (s.dispatched after) t := by
  rw [onController_own _ _ _ _ hs.live hs.sd, sdCommand_of_ok he] at hi
  have hsel : (s.dispatched after).SelOk := State.SelOk.setSel (s := s.beginDispatch) hs.sel after
  obtain ⟨t, ht, hr⟩ := finishByte_sdResult (u := s.dispatched after) a d b hs.live hsel
  exact ⟨t, hi.trans ht, hr⟩

/-- A read the drive accepts completes such a command. -/
theorem sdCommand_completes (hs : OnSd s) (hi : exec i s = onController .sd a (sdCommand a d b effect) s)
    (he : effect (s.dispatched (updated b s)) = .ok () (s.dispatched after))
    (hread : d = true → readAccepts (envOf s) after = true) :
    ∃ t, exec i s = .next t ∧ CommandFrame s t ∧ t.calls = s.calls ∧ EndsSd d b (envOf s) after t := by
  obtain ⟨t, ht, ⟨d', f, x, htouch⟩, hends, -⟩ := sdCommand_resultRead hs hi he
  rw [State.dispatched_sel hs.sel, State.dispatched_env] at hends
  rw [State.dispatched_setSel] at htouch
  subst htouch
  exact ⟨_, ht, commandFrame_dispatched s d' f x, rfl, hends hread⟩

/-- A read the drive refuses faults such a command, whose effect stands (R270). -/
theorem sdCommand_read_refused (hs : OnSd s) (hi : exec i s = onController .sd a (sdCommand a true b effect) s)
    (he : effect (s.dispatched (updated b s)) = .ok () (s.dispatched after)) {e : DriveFault} {d' : Drive}
    (hread : after.readByte (envOf s) = .fault e d') :
    ∃ t, exec i s = .next t ∧ EndsFaulted (recordOf after.driveNumber a e) d' s t := by
  obtain ⟨t, ht, -, -, hrefused⟩ := sdCommand_resultRead hs hi he
  rw [State.dispatched_sel hs.sel, State.dispatched_env] at hrefused
  obtain rfl := hrefused rfl e d' hread
  rw [State.dispatched_setSel] at ht
  exact ⟨_, ht, endsFaulted_dispatched hs.sel _ d'⟩

/-- A command whose effect faults, with the drive left as `after`. -/
theorem sdCommand_effect_faulted (hs : OnSd s) (hi : exec i s = onController .sd a (sdCommand a d b effect) s)
    {r : FaultRecord} (he : effect (s.dispatched (updated b s)) = .faulted { s.dispatched after with fault := some r }) :
    ∃ t, exec i s = .next t ∧ EndsFaulted r after s t := by
  rw [onController_own _ _ _ _ hs.live hs.sd, sdCommand_of_faulted he, finishByte_faulted] at hi
  exact ⟨_, hi, endsFaulted_dispatched hs.sel r after⟩

end Sys2Proof.Machine

namespace Sys2Proof.Claims
open Sys2Proof.Machine

/-- The result read leaves the flags, the latches and the head of the drive the effect left. -/
theorem EndsSd.transferFrame {d b : Bool} {env : DriveEnv} {after : Drive} {t : State} (h : EndsSd d b env after t) :
    after.TransferFrame t.sel := by
  obtain ⟨-, hstatus, hdata⟩ := h
  cases d with
  | false => exact (hstatus rfl).1 ▸ .refl after
  | true =>
    obtain ⟨x, d', hread, hsel, -⟩ := hdata rfl
    have hframe := (Drive.readByte_frame env after).1
    rw [hread] at hframe
    exact hsel ▸ hframe

end Sys2Proof.Claims
end

section
/-! The rows of the SD controller (41_sd_controller.md R121 to R133). -/

namespace Sys2Proof.Machine
open Sys2Proof.Claims

variable {s t : State} {b : Bool}

/-- Only a live state takes a step of the bus (R35). -/
theorem live_of_exec_next {i : Instr} (h : exec i s = .next t) : s.fault = none := by
  obtain ⟨k, hk⟩ := exec_guarded i s
  exact (whenLive_next (hk.symm.trans h)).1

/-! ### `SD.SEL` -/

/-- The state in which `SD.SEL` reads its result: the drive selected before is updated, unit `u` is selected (R125). -/
def State.selected (b : Bool) (u : Nat) (s : State) : State := (s.dispatched (updated b s)).select u

theorem State.selected_sel (hs : s.SelOk) (b : Bool) (u : Nat) :
    (s.selected b u).sel = if u = s.c.selectedDrive then updated b s else s.c.drive u := by
  split
  case isTrue h => exact h ▸ State.dispatched_sel hs _
  case isFalse h => exact State.setSel_drive_other s.beginDispatch _ u h

theorem State.selected_selOk (hn : s.c.drives.length = 4) (b : Bool) (p : BitVec 2) :
    (s.selected b p.toNat).SelOk := by
  have hlen : (s.selected b p.toNat).c.drives.length = 4 := (List.length_set ..).trans hn
  exact p.isLt.trans_eq hlen.symm

@[simp] theorem State.selected_env (b : Bool) (u : Nat) (s : State) : (s.selected b u).env = envOf s := rfl

/-- `SD.SEL` of a unit ends with the result read from the drive selected after. -/
theorem exec_sdSel (hl : s.fault = none) (hv : s.c.variant = .sd) (x d b : Bool) {p : BitVec 2} (hp : p ≠ 0#2) :
    exec (.sdSel x d b p) s =
      finishByte (sdResult (encodeAddr (.sdSel x d b p)) d b (s.selected b p.toNat)) :=
  (onController_own _ _ _ _ hl hv).trans (congrArg finishByte (sdCommand_of_ok (if_neg hp)))

/-- Whatever the result read does, it touches only the drive selected before and the one selected after (R189). -/
theorem SdResultRead.selected_frame (hs : s.SelOk) {a : Addr} {d : Bool} {u : Nat}
    (h : SdResultRead a d b (s.selected b u) t) :
    Frame [s.c.selectedDrive, u] s t ∧ t.c.selectedDrive = u ∧ SameOrders s t ∧ MotorsTouched s t ∧
      t.calls = s.calls ∧ (u ≠ s.c.selectedDrive → t.c.drive s.c.selectedDrive = updated b s) := by
  obtain ⟨d', f, x, rfl⟩ := h.touches
  have hbefore := (Frame.beginDispatch [s.c.selectedDrive, u] s).setSel List.mem_cons_self (updated b s)
  have hafter := (hbefore.select u).setSel (List.mem_cons_of_mem _ List.mem_cons_self) d'
  exact ⟨hafter.ended f x, rfl, ⟨rfl, rfl⟩, ⟨rfl, rfl⟩, rfl, fun hne =>
    (State.setSel_drive_other _ d' _ hne.symm).trans (State.dispatched_sel hs (updated b s))⟩

theorem sdResult_selectedDrive (a : Addr) (d b : Bool) (u : State) :
    (sdResult a d b u).state.c.selectedDrive = u.c.selectedDrive := by
  cases d with
  | false => rw [sdResult_status, Res.state]
  | true =>
    change (callDrive a Drive.readByte u).state.c.selectedDrive = _
    unfold callDrive
    split <;> rfl

/-- Whatever the result read does, the new selection stands (R303). -/
theorem exec_sdSel_selectedDrive {x d b : Bool} {p : BitVec 2} (hv : s.c.variant = .sd) (hp : p ≠ 0#2)
    (h : exec (.sdSel x d b p) s = .next t) : t.c.selectedDrive = p.toNat := by
  rw [exec_sdSel (live_of_exec_next h) hv x d b hp] at h
  obtain ⟨_, rfl⟩ := finishByte_next h
  exact sdResult_selectedDrive _ d b (s.selected b p.toNat)

/-! ### `SD.WRT` -/

/-- The effect of `SD.WRT` in a scan state (R126, R211). -/
theorem sdWrtEffect_scan {d : Drive} (hs : OnSd s) (hscan : isScan d.state = true) (a : Addr) :
    ((startSectorWrite a (s.dispatched d)).bind fun _ s' => .ok () s') =
      .ok () (s.dispatched (writeStarted s ((d.currentTrack * 10 + d.currentSector) * 256) 256 d)) := by
  rw [startSectorWrite, callDrive_dispatched_ok hs.sel
    (Drive.beginWrite_scan (densityMismatch_sd hs.sd d) hscan), Drive.startWrite_sd hs.sd, Res.bind_ok]

/-- The effect of `SD.WRT` in a transfer state (R126, R210). -/
theorem sdWrtEffect_outOfSequence {d : Drive} (hs : OnSd s) (hscan : isScan d.state = false) (a : Addr) :
    ((startSectorWrite a (s.dispatched d)).bind fun _ s' => .ok () s') =
      .faulted { s.dispatched d with fault := some (.internalConsistency .beginWrite d.state d.driveNumber a) } := by
  rw [startSectorWrite, callDrive_dispatched_fault hs.sel
    (Drive.beginWrite_outOfSequence (densityMismatch_sd hs.sd d) hscan), Res.bind_faulted, recordOf]

end Sys2Proof.Machine

namespace Sys2Proof.Proofs.SdController
open Sys2Proof Sys2Proof.Machine Sys2Proof.Claims

/-- Settles O21: a page of the PROM is read without a dispatch's bookkeeping. -/
theorem sdPromReadsReturnTheRomByte : Obligations.SdPromReadsReturnTheRomByte :=
  fun _ _ hl hv => ⟨_, onController_own _ _ _ _ hl hv, onController_own _ _ _ _ hl hv, rfl⟩

/-- Settles O22: the effect of each of the three is none. -/
theorem sdNoOpCommandsComplete : Obligations.SdNoOpCommandsComplete := by
  intro s x d b p hs hread i hi
  simp only [List.mem_cons, List.not_mem_nil, or_false] at hi
  obtain rfl | rfl | rfl := hi
  all_goals exact sdCommand_completes hs rfl rfl hread

/-- Settles O23: the effect clears the flag, and the result read does not set it again. -/
theorem sdRsfClearsTheSectorFlag : Obligations.SdRsfClearsTheSectorFlag := by
  intro s x d b p hs hread
  obtain ⟨t, ht, hframe, hcalls, hends⟩ := sdCommand_completes (i := .sdRsf x d b p) hs rfl
    (congrArg (Res.ok ()) (State.dispatched_map hs.sel (fun d => { d with sectorHoleDetected := false }) (updated b s)))
    hread
  exact ⟨t, ht, hframe, hcalls, hends.transferFrame.sectorHoleDetected, hends⟩

/-- Settles O24: the effect is `setStepFlipFlop` of the updated drive, whose latches and head are those before the
update. -/
theorem sdStpffMovesTheHeadOnTheFallingEdge : Obligations.SdStpffMovesTheHeadOnTheFallingEdge := by
  intro s x d b p after hs hafter hread
  have hlatch : after = (updated b s).setStepFlipFlop (sdBit p) := by
    simp [hafter, Drive.setStepFlipFlop_eq, sdBit]
  refine sdCommand_completes hs rfl (congrArg (Res.ok ()) ?_) hread
  exact (State.dispatched_map hs.sel (Drive.setStepFlipFlop (sdBit p)) _).trans (congrArg (s.dispatched ·) hlatch.symm)

/-- Settles O25: neither the update, nor the effect, nor the result read moves the head. -/
theorem sdStpdirLatchesTheDirection : Obligations.SdStpdirLatchesTheDirection := by
  intro s x d b p hs hread
  obtain ⟨t, ht, hframe, hcalls, hends⟩ := sdCommand_completes (i := .sdStpdir x d b p) hs rfl
    (congrArg (Res.ok ()) (State.dispatched_map hs.sel (Drive.setStepDirection (directionOf (sdBit p))) (updated b s)))
    hread
  exact ⟨t, ht, hframe, hcalls, hends.transferFrame.currentTrack.trans (Drive.update_currentTrack ..), hends⟩

/-- Settles O26: the result is read in the state the selection left, from the drive selected after; the three refusals are
those of `readByte`. -/
theorem sdSelSelectsTheUnit : Obligations.SdSelSelectsTheUnit := by
  intro s x d b p after hs hn hp hafter
  have hsel := State.selected_selOk hn b p
  have hdrive : (s.selected b p.toNat).sel = after := (State.selected_sel hs.sel b _).trans hafter.symm
  obtain ⟨t, ht, hresult⟩ :=
    finishByte_sdResult (u := s.selected b p.toNat) (encodeAddr (.sdSel x d b p)) d b hs.live hsel
  obtain ⟨hframe, hselected, horders, hmotors, hcalls, hbefore⟩ := hresult.selected_frame hs.sel
  obtain ⟨-, hends, hrefused⟩ := hresult
  rw [hdrive, State.selected_env] at hends hrefused
  have hfault : ∀ e d', d = true → after.readByte (envOf s) = .fault e d' →
      t.fault = some (recordOf after.driveNumber (encodeAddr (.sdSel x d b p)) e) ∧ t.result = .none ∧ t.sel = d' := by
    intro e d' hd he
    rw [hrefused hd e d' he]
    exact ⟨rfl, rfl, State.setSel_sel _ _ hsel⟩
  refine ⟨t, (exec_sdSel hs.live hs.sd x d b hp).trans ht, hframe, hselected, horders, hmotors, hcalls, hbefore, hends,
    fun hd hst => ?_, fun buf off hd hscan hb hoff hle => ?_, fun buf hd hst hb hle => ?_⟩
  · exact hfault _ _ hd (Drive.readByte_outOfSequence _ hst)
  · refine hfault (.outOfImage off) (readStarted off 256 after) hd ?_
    rw [Drive.readByte_scan _ hscan, Drive.startRead_sd hs.sd, ← hoff]
    exact Drive.readPayload_outOfImage s.cfg hb hle
  · exact hfault _ _ hd (Drive.readByte_readData_outOfImage _ hst hb hle)

/-- Settles O27: the effect is the fault. -/
theorem sdSelZeroFaults : Obligations.SdSelZeroFaults :=
  fun _ _ _ _ hs => sdCommand_effect_faulted hs rfl rfl

/-- Settles O28: each of the two leaves its own unit selected. -/
theorem selectingTwiceSelectsOnce : Obligations.SelectingTwiceSelectsOnce := by
  intro s s1 s2 x d b x' d' b' p hv hp h1 h2
  have hv1 : s1.c.variant = .sd := (FixedKept.busStep (exec_next h1)).variant.trans hv
  have hsel1 := exec_sdSel_selectedDrive hv hp h1
  exact ⟨hsel1, (exec_sdSel_selectedDrive hv1 hp h2).trans hsel1.symm⟩

/-- Settles O29: the effect starts the write, and a status byte is its result. -/
theorem sdWrtBeginsTheWriteSequence : Obligations.SdWrtBeginsTheWriteSequence := by
  rintro s x b p after hs hscan rfl
  exact sdCommand_completes hs rfl (sdWrtEffect_scan hs hscan _) nofun

/-- Settles O30: in a transfer state the effect faults; in a scan state it leaves the write lead-in, in which no byte is
read. -/
theorem sdWrtFaultsOutOfSequence : Obligations.SdWrtFaultsOutOfSequence := by
  intro s x d b p hs
  refine ⟨fun hscan => sdCommand_effect_faulted hs rfl (sdWrtEffect_outOfSequence hs hscan _), fun hscan => ?_⟩
  have hlead : DriveState.writeLeadin ∈ [DriveState.readEnd, .writeLeadin, .writeData, .writeCrc, .writeEnd] := by
    decide
  exact sdCommand_read_refused (i := .sdWrt x true b p) hs rfl (sdWrtEffect_scan hs hscan _)
    (Drive.readByte_outOfSequence _ hlead)

end Sys2Proof.Proofs.SdController
end

section
/-! How a DD command ends (42_dd_controller.md R155, R156), by the drive its effect left. -/

namespace Sys2Proof.Machine
open Sys2Proof.Claims

variable {s u : State} {a : Addr} {mux : BitVec 4} {after : Drive} {i : Instr} {effect : State → Res Bool}

theorem ddResult_data (a : Addr) (u : State) : ddResult a 4#4 u = readStream a u := rfl

/-- Every mux value but the data mux answers a byte and touches nothing (R156). -/
theorem ddResult_status (a : Addr) (u : State) (h : mux ≠ 4#4) :
    ∃ x, ddResult a mux u = .ok x u ∧
      (mux = 1#4 → x = statusADd u.cfg (viewOf u.c u.sel)) ∧
      (mux = 2#4 → x = statusBDd u.cfg (viewOf u.c u.sel)) ∧
      (mux = 3#4 → x = statusCDd u.cfg (viewOf u.c u.sel)) := by
  by_cases h1 : mux = 1#4
  · subst h1
    exact ⟨_, rfl, fun _ => rfl, nofun, nofun⟩
  by_cases h2 : mux = 2#4
  · subst h2
    exact ⟨_, rfl, nofun, fun _ => rfl, nofun⟩
  by_cases h3 : mux = 3#4
  · subst h3
    exact ⟨_, rfl, nofun, nofun, fun _ => rfl⟩
  refine ⟨Config.byteDraw u.draws, ?_, fun h => absurd h h1, fun h => absurd h h2, fun h => absurd h h3⟩
  have hne : ∀ m : BitVec 4, mux ≠ m → mux.toNat ≠ m.toNat := fun m hm he => hm (BitVec.eq_of_toNat_eq he)
  unfold ddResult
  split
  case h_1 he => exact absurd he (hne 1#4 h1)
  case h_2 he => exact absurd he (hne 2#4 h2)
  case h_3 he => exact absurd he (hne 3#4 h3)
  case h_4 he => exact absurd he (hne 4#4 h)
  case h_5 => rfl

/-- A result read of a command that does not select, where the drive accepts it. -/
theorem finishByte_ddResult_dispatched (hs : OnDd s) (a : Addr)
    (hread : mux = 4#4 → readAccepts (envOf s) after = true) :
    ∃ t, finishByte (ddResult a mux (s.dispatched after)) = .next t ∧ CommandFrame s t ∧ t.calls = s.calls ∧
      EndsDd mux (envOf s) after t := by
  by_cases hmux : mux = 4#4
  · obtain ⟨x, d', hx⟩ := Drive.readByte_of_accepts _ _ (hread hmux)
    subst hmux
    rw [ddResult_data, readStream, callDrive_dispatched_ok hs.sel hx, finishByte_ok]
    exact ⟨_, rfl, commandFrame_dispatched s d' s.fault _, rfl, hs.live, nofun, nofun, nofun,
      fun _ => ⟨x, d', hx, State.dispatched_sel hs.sel d', rfl⟩, fun _ _ _ h => absurd rfl h⟩
  · obtain ⟨x, hx, hA, hB, hC⟩ := ddResult_status a (s.dispatched after) hmux
    have hsel := State.dispatched_sel hs.sel after
    rw [hsel] at hA hB hC
    rw [hx, finishByte_ok]
    exact ⟨_, rfl, commandFrame_dispatched s after s.fault _, rfl, hs.live,
      fun h => ⟨hsel, congrArg BusResult.byte (hA h)⟩, fun h => ⟨hsel, congrArg BusResult.byte (hB h)⟩,
      fun h => ⟨hsel, congrArg BusResult.byte (hC h)⟩, fun h => absurd h hmux, fun _ _ _ _ => ⟨hsel, x, rfl⟩⟩

/-- A command whose effect succeeds ends with its result. -/
theorem ddCommand_of_ok (he : effect (s.dispatched (updated (mux == 2#4) s)) = .ok true u) :
    ddCommand a mux effect s = ddResult a mux u := by
  rw [ddCommand, State.beginDispatch_updateSel, he, Res.bind_ok, if_pos rfl]

/-- A command whose effect faults reads no result. -/
theorem ddCommand_of_faulted (he : effect (s.dispatched (updated (mux == 2#4) s)) = .faulted u) :
    ddCommand a mux effect s = .faulted u := by
  rw [ddCommand, State.beginDispatch_updateSel, he, Res.bind_faulted]

/-- A read the drive accepts completes a DD command whose effect leaves the selected drive as `after`. -/
theorem ddCommand_completes (hs : OnDd s) (hi : exec i s = onController .dd a (ddCommand a mux effect) s)
    (he : effect (s.dispatched (updated (mux == 2#4) s)) = .ok true (s.dispatched after))
    (hread : mux = 4#4 → readAccepts (envOf s) after = true) :
    ∃ t, exec i s = .next t ∧ CommandFrame s t ∧ t.calls = s.calls ∧ EndsDd mux (envOf s) after t := by
  rw [hi, onController_own _ _ _ _ hs.live hs.dd, ddCommand_of_ok he]
  exact finishByte_ddResult_dispatched hs a hread

/-- A command whose effect faults, with the drive left as `after`. -/
theorem ddCommand_effect_faulted (hs : OnDd s) (hi : exec i s = onController .dd a (ddCommand a mux effect) s)
    {r : FaultRecord}
    (he : effect (s.dispatched (updated (mux == 2#4) s)) = .faulted { s.dispatched after with fault := some r }) :
    ∃ t, exec i s = .next t ∧ EndsFaulted r after s t := by
  rw [onController_own _ _ _ _ hs.live hs.dd, ddCommand_of_faulted he, finishByte_faulted] at hi
  exact ⟨_, hi, endsFaulted_dispatched hs.sel r after⟩

/-- A read the drive refuses faults a command with the data mux, whose effect stands (R270). -/
theorem ddCommand_read_refused (hs : OnDd s) (hi : exec i s = onController .dd a (ddCommand a 4#4 effect) s)
    (he : effect (s.dispatched (updated (4#4 == 2#4) s)) = .ok true (s.dispatched after)) {e : DriveFault}
    {d' : Drive} (hread : after.readByte (envOf s) = .fault e d') :
    ∃ t, exec i s = .next t ∧ EndsFaulted (recordOf after.driveNumber a e) d' s t := by
  rw [onController_own _ _ _ _ hs.live hs.dd, ddCommand_of_ok he, ddResult_data, readStream,
    callDrive_dispatched_fault hs.sel hread, finishByte_faulted] at hi
  exact ⟨_, hi, endsFaulted_dispatched hs.sel _ d'⟩

end Sys2Proof.Machine

namespace Sys2Proof.Claims
open Sys2Proof.Machine

variable {mux : BitVec 4} {env : DriveEnv} {after : Drive} {t : State}

/-- Without the data mux the result leaves the drive as the effect left it (R156). -/
theorem EndsDd.sel_of_ne (h : EndsDd mux env after t) (hmux : mux ≠ 4#4) : t.sel = after := by
  obtain ⟨-, hA, hB, hC, -, hother⟩ := h
  by_cases h1 : mux = 1#4
  · exact (hA h1).1
  by_cases h2 : mux = 2#4
  · exact (hB h2).1
  by_cases h3 : mux = 3#4
  · exact (hC h3).1
  exact (hother h1 h2 h3 hmux).1

/-- The result read leaves the flags, the latches and the head of the drive the effect left. -/
theorem EndsDd.transferFrame (h : EndsDd mux env after t) : after.TransferFrame t.sel := by
  by_cases hmux : mux = 4#4
  · obtain ⟨-, -, -, -, hdata, -⟩ := h
    obtain ⟨x, d', hread, hsel, -⟩ := hdata hmux
    have hframe := (Drive.readByte_frame env after).1
    rw [hread] at hframe
    exact hsel ▸ hframe
  · exact h.sel_of_ne hmux ▸ .refl after

end Sys2Proof.Claims
end

section
/-! Where a DD drive begins a write (44_drive_transfer.md R202, R204, R211), and when the densities agree (R159). -/

namespace Sys2Proof.Machine
open Sys2Proof.Claims

theorem Drive.sectorSize_dd (d : Drive) :
    d.sectorSize .dd = if d.diskBuffer ≠ none ∧ d.imageDouble = true then 512 else 256 := by
  simp [Drive.sectorSize, Option.isSome_iff_ne_none]

theorem Drive.startWrite_dd {s : State} (hv : s.c.variant = .dd) (d : Drive) :
    d.startWrite (envOf s) =
      writeStarted s ((trackIndex s.c.orderSide d.currentTrack * 10 + d.currentSector) * d.sectorSize .dd)
        (d.sectorSize .dd) d := by
  rw [Drive.startWrite, show (envOf s).variant = .dd from hv]
  rfl

theorem densityMismatch_dd_eq_false {env : DriveEnv} {d : Drive} (hv : env.variant = .dd)
    (h : env.orderDouble = true → d.diskBuffer ≠ none → d.imageDouble = true) : densityMismatch env d = false := by
  rw [densityMismatch, hv]
  cases ho : env.orderDouble with
  | false => rfl
  | true =>
    cases hb : d.diskBuffer with
    | none => rfl
    | some buf =>
      have hdouble : d.imageDouble = true := h ho (hb ▸ nofun)
      rw [hdouble]
      rfl

end Sys2Proof.Machine
end

section
/-! The order register of the DD controller (42_dd_controller.md R153, R154). -/

namespace Sys2Proof.Claims
open Sys2Proof.Machine

theorem Frame.setOrder {touched : List Nat} {s t : State} (h : Frame touched s t) (den : Bool) (side : BitVec 1) :
    Frame touched s (t.setOrder den side) := { h with }

end Sys2Proof.Claims

namespace Sys2Proof.Machine
open Sys2Proof.Claims

variable {s : State}

/-- The direction an order leaves on the drive selected before it: a write-ready drive keeps its own (R153, R300). -/
def Drive.orderedDirection (dir : Bool) (d : Drive) : StepDirection :=
  if d.writeReady then d.stepDirection else directionOf dir

theorem State.orderDirection_eq (dir : Bool) (s : State) :
    s.orderDirection dir = s.stepDirection (s.sel.orderedDirection dir) := by
  rw [State.orderDirection, Drive.orderedDirection]
  split
  · exact s.setSel_self.symm
  · rfl

theorem State.stepDirection_stepFlipFlop (hs : s.SelOk) (way : StepDirection) (step : Bool) :
    (s.stepDirection way).stepFlipFlop step = s.setSel ((s.sel.setStepDirection way).setStepFlipFlop step) := by
  rw [State.stepFlipFlop, State.stepDirection, State.setSel_sel s _ hs, State.setSel_setSel]

/-- The state an order leaves: the order fields, the drive selected before with its new direction and latch, the new
selection (R153). -/
def State.ordered (den : Bool) (side : BitVec 1) (d : Drive) (unit : Nat) (s : State) : State :=
  ((s.beginDispatch.setOrder den side).setSel d).select unit

theorem ddOrderRead_eq (hs : s.SelOk) (den : Bool) (side : BitVec 1) (dir step : Bool) (ds : BitVec 4) :
    ∃ x, ddOrderRead den side dir step ds s =
      .ok x (s.ordered den side ((s.sel.setStepDirection (s.sel.orderedDirection dir)).setStepFlipFlop step)
        (oneHot ds)) := by
  have hsel : (s.beginDispatch.setOrder den side).SelOk := hs
  rw [ddOrderRead, State.orderDirection_eq, State.stepDirection_stepFlipFlop hsel]
  exact ⟨_, rfl⟩

theorem State.ordered_drive (hs : s.SelOk) (den : Bool) (side : BitVec 1) (d : Drive) (unit : Nat) :
    (s.ordered den side d unit).c.drive s.c.selectedDrive = d :=
  State.setSel_sel (s.beginDispatch.setOrder den side) d hs

theorem frame_ordered (den : Bool) (side : BitVec 1) (d : Drive) (unit : Nat) (s : State) :
    Frame [s.c.selectedDrive] s (s.ordered den side d unit) :=
  (((Frame.beginDispatch _ s).setOrder den side).setSel (List.mem_singleton_self _) d).select unit

end Sys2Proof.Machine
end

section
/-! The rows of the DD controller (42_dd_controller.md R151 to R167). -/

namespace Sys2Proof.Proofs.DdController
open Sys2Proof Sys2Proof.Machine Sys2Proof.Claims

/-- Settles O38: a page of the PROM is read without a dispatch's bookkeeping. -/
theorem ddPromReadReturnsTheRomByte : Obligations.DdPromReadReturnsTheRomByte :=
  fun _ _ hl hv => onController_own _ _ _ _ hl hv

/-- Settles O39: direction and step are one write of the drive selected before, and the selection, made last, leaves it
standing. -/
theorem ddOrderSetsFieldsStepsAndSelects : Obligations.DdOrderSetsFieldsStepsAndSelects := by
  rintro s den side dir stp ds way hs rfl
  obtain ⟨x, hx⟩ := ddOrderRead_eq hs.sel den side dir stp ds
  have hnext : exec (.ddOrder den side dir stp ds) s = finishByte (ddOrderRead den side dir stp ds s) :=
    onController_own _ _ _ _ hs.live hs.dd
  rw [hx, finishByte_ok] at hnext
  refine ⟨_, x, hnext, (frame_ordered den side _ _ s).ended s.fault _, hs.live, rfl, rfl, ⟨rfl, rfl⟩, rfl, rfl, rfl, ?_⟩
  exact (State.ordered_drive hs.sel den side _ _).trans (Drive.setStepFlipFlop_eq stp _)

/-- Settles O40: the effect of each of the six is none. -/
theorem ddNoOpCommandsComplete : Obligations.DdNoOpCommandsComplete := by
  intro s mux hs hread i hi
  simp only [List.mem_cons, List.not_mem_nil, or_false] at hi
  obtain rfl | rfl | rfl | rfl | rfl | rfl := hi
  all_goals exact ddCommand_completes hs rfl rfl hread

/-- Settles O41: the effect clears the flag, and the result read does not set it again. -/
theorem ddRsfClearsTheSectorFlag : Obligations.DdRsfClearsTheSectorFlag := by
  intro s mux hs hread
  obtain ⟨t, ht, hframe, hcalls, hends⟩ := ddCommand_completes (i := .ddRsf mux) hs rfl
    (congrArg (Res.ok true) (State.dispatched_map hs.sel (fun d => { d with sectorHoleDetected := false })
      (updated (mux == 2#4) s)))
    hread
  exact ⟨t, ht, hframe, hcalls, hends.transferFrame.sectorHoleDetected, hends⟩

/-- Settles O42: `beginWrite` is the effect; in a scan state it leaves the write lead-in, in which no byte is read, and in
a transfer state it faults. -/
theorem ddWrtBeginsTheWriteSequence : Obligations.DdWrtBeginsTheWriteSequence := by
  rintro s mux d after size hs hdensity rfl hsize hafter
  have hmatch : densityMismatch (envOf s) (updated (mux == 2#4) s) = false :=
    densityMismatch_dd_eq_false hs.dd (by simpa using hdensity)
  have hstarted : (updated (mux == 2#4) s).startWrite (envOf s) = after := by
    rw [Drive.startWrite_dd hs.dd, hafter, hsize, Drive.sectorSize_dd, Drive.update_diskBuffer,
      Drive.update_imageDouble, trackIndex]
  have hbegin : isScan (updated (mux == 2#4) s).state = true →
      startSectorWrite (ddAddr mux 6#4) (s.dispatched (updated (mux == 2#4) s)) = .ok true (s.dispatched after) :=
    fun hscan => callDrive_dispatched_ok hs.sel (hstarted ▸ Drive.beginWrite_scan hmatch hscan)
  refine ⟨fun hscan hmux => ?_, fun hscan hmux => ?_, fun hscan => ?_⟩
  · exact ddCommand_completes hs rfl (hbegin hscan) fun h => absurd h hmux
  · subst hmux hafter
    have hlead : DriveState.writeLeadin ∈ [DriveState.readEnd, .writeLeadin, .writeData, .writeCrc, .writeEnd] := by
      decide
    exact ddCommand_read_refused (i := .ddWrt 4#4) hs rfl (hbegin hscan) (Drive.readByte_outOfSequence _ hlead)
  · exact ddCommand_effect_faulted hs rfl
      (callDrive_dispatched_fault hs.sel (Drive.beginWrite_outOfSequence hmatch hscan))

/-- Settles O43: the effect is the fault. -/
theorem ddUndefinedCommandFaults : Obligations.DdUndefinedCommandFaults :=
  fun _ _ _ hs => ddCommand_effect_faulted hs rfl rfl

end Sys2Proof.Proofs.DdController
end

section
/-! A byte operation touches the drive selected before it and the one selected after it alone (43_drive_rotation.md R189,
41_sd_controller.md R123, 42_dd_controller.md R153, R155): its pieces one after another, of which each touches the drives
selected at its own ends, and only one selects. -/

namespace Sys2Proof.Machine

variable {s t u : State} {α β : Type}

/-- From `s` to `t` at most the drives selected in `s` and in `t` change. -/
def UnselectedKept (s t : State) : Prop :=
  ∀ w, w ≠ s.c.selectedDrive → w ≠ t.c.selectedDrive → t.c.drive w = s.c.drive w

/-! ### The selection across a drive call and a result read -/

@[simp] theorem callDrive_selectedDrive (a : Addr) (f : DriveEnv → Drive → DriveDone α) (s : State) :
    (callDrive a f s).state.c.selectedDrive = s.c.selectedDrive := by
  unfold callDrive
  split <;> rfl

theorem ddResult_selectedDrive (a : Addr) (mux : BitVec 4) (s : State) :
    (ddResult a mux s).state.c.selectedDrive = s.c.selectedDrive := by
  by_cases hmux : mux = 4#4
  · subst hmux
    exact callDrive_selectedDrive a Drive.readByte s
  · obtain ⟨x, hx, -⟩ := ddResult_status a s hmux
    rw [hx, Res.state]

namespace UnselectedKept

theorem of_drives_eq (h : t.c.drives = s.c.drives) : UnselectedKept s t := fun _ _ _ => by
  simp only [Controller.drive, h]

theorem refl (s : State) : UnselectedKept s s := of_drives_eq rfl

/-- One after the other, where the selection between them is that of one of the ends. -/
theorem trans (h : UnselectedKept s t) (h' : UnselectedKept t u)
    (hsel : t.c.selectedDrive = s.c.selectedDrive ∨ t.c.selectedDrive = u.c.selectedDrive) : UnselectedKept s u := by
  intro w hs hu
  have ht : w ≠ t.c.selectedDrive := by
    obtain hsel | hsel := hsel
    · exact hsel ▸ hs
    · exact hsel ▸ hu
  exact (h' w ht hu).trans (h w hs ht)

theorem setSel (s : State) (d : Drive) : UnselectedKept s (s.setSel d) := fun w hw _ => s.setSel_drive_other d w hw

theorem callDrive (a : Addr) (f : DriveEnv → Drive → DriveDone α) (s : State) :
    UnselectedKept s (callDrive a f s).state := by
  cases hf : f s.env s.sel with
  | ok x d calls => rw [callDrive_ok a f s x d calls hf]; exact setSel s d
  | fault e d => rw [callDrive_fault a f s e d hf]; exact setSel s d

/-- An operation followed by one that does not select. -/
theorem bind {r : Res α} {k : α → State → Res β} (hr : UnselectedKept s r.state)
    (hk : ∀ x t, UnselectedKept t (k x t).state)
    (hsel : ∀ x t, (k x t).state.c.selectedDrive = t.c.selectedDrive) : UnselectedKept s (r.bind k).state := by
  cases r with
  | ok x t => exact hr.trans (hk x t) (.inr (hsel x t).symm)
  | faulted t => exact hr

/-- The update that begins a dispatch, on the drive selected before (R189), and what follows it. -/
theorem after_update {b : Bool} (h : UnselectedKept (s.beginDispatch.updateSel b) t) : UnselectedKept s t :=
  (setSel s.beginDispatch _).trans h (.inl rfl)

/-- A data write, on either controller, whatever byte `g` it answers (R122, R152). -/
theorem wdataRead (a : Addr) (v : Byte) {g : Bool → State → Byte} :
    UnselectedKept s ((writeStream a v (s.beginDispatch.updateSel false)).bind fun x t => .ok (g x t) t).state :=
  (after_update (callDrive a _ _)).bind (fun _ => refl) fun _ _ => rfl

/-! ### The SD controller -/

theorem sdResult (a : Addr) (d b : Bool) (s : State) : UnselectedKept s (sdResult a d b s).state := by
  cases d with
  | false => rw [sdResult_status]; exact refl s
  | true => exact callDrive a Drive.readByte s

theorem sdCommand {a : Addr} {d b : Bool} {effect : State → Res Unit} (h : ∀ t, UnselectedKept t (effect t).state) :
    UnselectedKept s (sdCommand a d b effect s).state :=
  (after_update (h _)).bind (fun _ => sdResult a d b) (fun _ => sdResult_selectedDrive a d b)

/-- `SD.SEL` touches no drive itself. -/
theorem sdSelEffect (a : Addr) (p : BitVec 2) (s : State) :
    UnselectedKept s (if p = 0#2 then raise (.selectUnitZero a) s else Res.ok () (s.select p.toNat)).state := by
  split <;> exact of_drives_eq rfl

theorem sdCmdRead (a : Addr) (q : Byte) (s : State) : UnselectedKept s (sdCmdRead a q s).state := by
  unfold Machine.sdCmdRead
  generalize (sdCmd q).toNat = code
  match code with
  | 0 => exact sdCommand (sdSelEffect a _)
  | 1 => exact sdCommand fun t => (callDrive a _ t).bind (fun _ => refl) fun _ _ => rfl
  | 2 | 5 | _ + 7 => exact sdCommand fun t => setSel t _
  | 3 | 4 | 6 => exact sdCommand refl

theorem sdRead (a : Addr) (s : State) : UnselectedKept s (sdRead a s).state := by
  unfold Machine.sdRead
  generalize (opType a).toNat = page
  match page with
  | 0 | 1 => exact refl s
  | 2 => exact wdataRead a _
  | _ + 3 => exact sdCmdRead a _ s

/-! ### The DD controller -/

theorem ddResult (a : Addr) (mux : BitVec 4) (s : State) : UnselectedKept s (ddResult a mux s).state := by
  by_cases hmux : mux = 4#4
  · subst hmux
    exact callDrive a Drive.readByte s
  · obtain ⟨x, hx, -⟩ := ddResult_status a s hmux
    rw [hx]
    exact refl s

theorem ddCommand {a : Addr} {mux : BitVec 4} {effect : State → Res Bool}
    (h : ∀ t, UnselectedKept t (effect t).state) : UnselectedKept s (ddCommand a mux effect s).state := by
  refine (after_update (h _)).bind (fun success t => ?_) (fun success t => ?_)
  · cases success with
    | false => exact refl t
    | true => exact ddResult a mux t
  · cases success with
    | false => rfl
    | true => exact ddResult_selectedDrive a mux t

/-- Direction and step are on the drive selected before, and the selection comes last (R153). -/
theorem ddOrderRead (den : Bool) (side : BitVec 1) (dir step : Bool) (ds : BitVec 4) (s : State) :
    UnselectedKept s (ddOrderRead den side dir step ds s).state := by
  rw [Machine.ddOrderRead, State.orderDirection_eq]
  have direction := setSel (s.beginDispatch.setOrder den side)
  exact ((direction _).trans (setSel _ _) (.inl rfl)).trans (of_drives_eq rfl) (.inl rfl)

theorem ddCmdRead (a : Addr) (q : Byte) (s : State) : UnselectedKept s (ddCmdRead a q s).state := by
  unfold Machine.ddCmdRead
  generalize (ddCmd q).toNat = code
  match code with
  | 0 | 2 | 3 | 4 | 5 | 7 => exact ddCommand refl
  | 1 => exact ddCommand fun t => setSel t _
  | 6 => exact ddCommand (callDrive a _)
  | _ + 8 => exact ddCommand fun t => of_drives_eq rfl

theorem ddRead (a : Addr) (s : State) : UnselectedKept s (ddRead a s).state := by
  unfold Machine.ddRead
  generalize (opType a).toNat = page
  match page with
  | 0 => exact refl s
  | 1 => exact wdataRead a _
  | 2 => exact ddOrderRead _ _ _ _ _ s
  | _ + 3 => exact ddCmdRead a _ s

/-! ### The router -/

theorem busRead (a : Addr) (s : State) : UnselectedKept s (busRead a s).state := by
  unfold Machine.busRead
  split
  · unfold controllerRead
    split
    · exact sdRead a s
    · exact ddRead a s
  · exact of_drives_eq (congrArg Controller.drives (readOutside_c _ a s))

theorem execRd {a : Addr} (h : execRd a s = .next t) : UnselectedKept s t := by
  obtain ⟨_, rfl⟩ := finishByte_next (whenLive_next h).2
  exact busRead a s

/-- Every instruction but the word read is one byte read, or a bus write, which does not reach the controller. -/
theorem exec {i : Instr} (hi : ∀ a, i ≠ .rdw a) (h : exec i s = .next t) : UnselectedKept s t := by
  by_cases hrow : i.needsVariant = none
  · cases i with
    | rd a => exact execRd h
    | wr a v =>
      rw [execWr_next h]
      exact of_drives_eq (congrArg Controller.drives (busWrite_c a v s))
    | rdw a => exact absurd rfl (hi a)
    | wrw a w =>
      rw [execWrw_next h]
      exact of_drives_eq (congrArg Controller.drives ((busWrite_c _ _ _).trans (busWrite_c _ _ s)))
    | _ => cases hrow
  · exact execRd ((exec_controllerRow i s hrow).symm.trans h)

end UnselectedKept

end Sys2Proof.Machine

namespace Sys2Proof.Proofs.DriveRotation
open Sys2Proof.Machine

/-- Settles O10: a byte operation is pieces that each touch the drives selected at its own ends, and of these only one
selects. -/
theorem unselectedDrivesAreUntouched : Obligations.UnselectedDrivesAreUntouched :=
  fun _ _ _ u hi h => UnselectedKept.exec hi h u

end Sys2Proof.Proofs.DriveRotation
end

section
/-! What one update makes of a drive, by its state and the probe flag (43_drive_rotation.md R180 to R187). -/

namespace Sys2Proof.Machine

variable {cfg : Config} {seed : Nat} {d : Drive} {r : Bool}

theorem Drive.update_sectorScan (h : d.state = .sectorScan) : d.update cfg false seed = d.advance cfg := by
  rw [Drive.update, h]
  rfl

theorem Drive.update_sectorScan_probe (h : d.state = .sectorScan) : d.update cfg true seed = d.scanProbe cfg seed := by
  rw [Drive.update, h]
  rfl

theorem Drive.update_windowOpen (h : d.state = .windowOpen) : d.update cfg r seed = d.stepWindowOpen cfg := by
  rw [Drive.update, h]

theorem Drive.update_windowClose (h : d.state = .windowClose) : d.update cfg r seed = d.stepWindowClose := by
  rw [Drive.update, h]

theorem Drive.update_transfer (h : isScan d.state = false) : d.update cfg r seed = d.escape := by
  unfold Drive.update
  cases hs : d.state with
  | sectorScan | windowOpen | windowClose => rw [hs] at h; cases h
  | _ => rfl

/-! ### The three cases of a probe in `SECTOR_SCAN` -/

/-- The first probe draws the count of the delay. -/
theorem Drive.scanProbe_unarmed (h : d.jitterArmed = false) :
    d.scanProbe cfg seed = { d with jitterCount := seed % (cfg.jitterMax + 1), jitterArmed := true } := by
  simp [Drive.scanProbe, h]

/-- A probe during the delay counts it down. -/
theorem Drive.scanProbe_counting (h : d.jitterArmed = true) (hc : 0 < d.jitterCount) :
    d.scanProbe cfg seed = { d with jitterCount := d.jitterCount - 1 } := by
  simp [Drive.scanProbe, h, hc]

/-- A probe after the delay advances. -/
theorem Drive.scanProbe_elapsed (h : d.jitterArmed = true) (hc : d.jitterCount = 0) :
    d.scanProbe cfg seed = d.advance cfg := by
  simp [Drive.scanProbe, h, hc]

end Sys2Proof.Machine

namespace Sys2Proof.Proofs.DriveRotation
open Sys2Proof.Machine

/-- Settles O46: each state and probe flag chooses one operation of the rotation, whose own equation is the clause. -/
theorem updateFollowsTheStateTable : Obligations.UpdateFollowsTheStateTable := by
  intro cfg seed d r
  refine ⟨?_, ?_, Drive.update_windowOpen, Drive.update_windowClose, Drive.update_transfer⟩
  · rintro h rfl
    exact Drive.update_sectorScan h
  · rintro h rfl
    rw [Drive.update_sectorScan_probe h, Drive.update_sectorScan h]
    cases harmed : d.jitterArmed with
    | false => exact Drive.scanProbe_unarmed harmed
    | true =>
      obtain hzero | hpos := d.jitterCount.eq_zero_or_pos
      · simp [Drive.scanProbe_elapsed harmed hzero, hzero]
      · simp [Drive.scanProbe_counting harmed hpos, hpos, harmed]

end Sys2Proof.Proofs.DriveRotation
end

section
/-! The randomized delay of the sector-hole advance: probes in a row, by the count left (43_drive_rotation.md R183). -/

namespace Sys2Proof.Machine

/-- The drive after one B-status probe for each seed drawn. -/
def Drive.probes (cfg : Config) (seeds : List Nat) (d : Drive) : Drive :=
  seeds.foldl (fun d seed => d.update cfg true seed) d

variable {cfg : Config} {d : Drive} {seeds : List Nat}

/-- As long as the count of an armed drive lasts, probes count it down and change nothing else. -/
theorem Drive.probes_counting (hs : d.state = .sectorScan) (ha : d.jitterArmed = true)
    (hn : seeds.length ≤ d.jitterCount) :
    d.probes cfg seeds = { d with jitterCount := d.jitterCount - seeds.length } := by
  induction seeds generalizing d with
  | nil => rfl
  | cons seed rest ih =>
    rw [List.length_cons] at hn
    have hstep : d.update cfg true seed = { d with jitterCount := d.jitterCount - 1 } := by
      rw [Drive.update_sectorScan_probe hs, Drive.scanProbe_counting ha (by omega)]
    calc d.probes cfg (seed :: rest)
        = (d.update cfg true seed).probes cfg rest := rfl
      _ = ({ d with jitterCount := d.jitterCount - 1 } : Drive).probes cfg rest := by rw [hstep]
      _ = { d with jitterCount := d.jitterCount - 1 - rest.length } := ih hs ha (by dsimp only; omega)
      _ = { d with jitterCount := d.jitterCount - (seed :: rest).length } := by
          rw [List.length_cons, Nat.sub_sub, Nat.add_comm 1]

/-- The probe after the count of an armed drive has run out advances it. -/
theorem Drive.probes_elapsed (hs : d.state = .sectorScan) (ha : d.jitterArmed = true)
    (hn : seeds.length = d.jitterCount + 1) :
    d.probes cfg seeds = ({ d with jitterCount := 0 } : Drive).advance cfg := by
  obtain rfl | ⟨init, last, rfl⟩ := seeds.eq_nil_or_concat'
  · cases hn
  rw [List.length_append, List.length_singleton, Nat.add_right_cancel_iff] at hn
  have hcount : d.probes cfg init = { d with jitterCount := 0 } := by
    rw [Drive.probes_counting hs ha hn.le, hn, Nat.sub_self]
  calc d.probes cfg (init ++ [last])
      = (d.probes cfg init).update cfg true last := by simp [Drive.probes]
    _ = ({ d with jitterCount := 0 } : Drive).update cfg true last := by rw [hcount]
    _ = ({ d with jitterCount := 0 } : Drive).scanProbe cfg last := Drive.update_sectorScan_probe hs
    _ = ({ d with jitterCount := 0 } : Drive).advance cfg := Drive.scanProbe_elapsed ha rfl

/-- The first probe arms an unarmed drive with the count its seed gives; the others find it so. -/
theorem Drive.probes_unarmed (hs : d.state = .sectorScan) (ha : d.jitterArmed = false) (first : Nat) :
    d.probes cfg (first :: seeds) =
      ({ d with jitterCount := first % (cfg.jitterMax + 1), jitterArmed := true } : Drive).probes cfg seeds := by
  rw [← Drive.scanProbe_unarmed ha, ← Drive.update_sectorScan_probe hs]
  rfl

end Sys2Proof.Machine

namespace Sys2Proof.Proofs.DriveRotation
open Sys2Proof.Machine

/-- Settles O47: the first probe arms the drive with the count `k`, the next `k` count it down, and the one after them
advances. -/
theorem jitterDelaysTheAdvance : Obligations.JitterDelaysTheAdvance := by
  rintro cfg d first k later e hs ha rfl rfl
  have harm := Drive.probes_unarmed (cfg := cfg) (seeds := later) hs ha first
  rw [Drive.probes] at harm
  refine ⟨Nat.le_of_lt_succ (Nat.mod_lt _ (Nat.succ_pos _)), fun hn => ?_, fun hn => ?_⟩
  · rw [harm.trans (Drive.probes_counting hs rfl hn)]
    exact ⟨hs, rfl, rfl⟩
  · rw [harm.trans (Drive.probes_elapsed hs rfl hn)]
    exact ⟨rfl, rfl, rfl⟩

end Sys2Proof.Proofs.DriveRotation
end

section
/-! One sector: the advance, the window's two countdowns and the return to `SECTOR_SCAN` (43_drive_rotation.md R181, R182,
R185, R186, R190). -/

namespace Sys2Proof.Machine

variable {cfg : Config} {d : Drive} {st next : DriveState} {left sector k : Nat}

/-- Drive `d` is in state `st` over sector `sector`, with `left` counts left before the state changes. -/
structure Drive.At (st : DriveState) (left sector : Nat) (d : Drive) : Prop where
  state         : d.state = st
  stateCounter  : d.stateCounter = left
  currentSector : d.currentSector = sector

/-! ### One update, no probe -/

theorem Drive.At.countdown_succ (h : d.At st (left + 1) sector) : (d.countdown next k).At st left sector := by
  obtain ⟨hst, hleft, hsector⟩ := h
  rw [Drive.countdown, if_neg (by omega), hleft]
  exact ⟨hst, rfl, hsector⟩

theorem Drive.At.countdown_zero (h : d.At st 0 sector) : (d.countdown next k).At next k sector := by
  obtain ⟨-, hleft, hsector⟩ := h
  rw [Drive.countdown, if_pos hleft]
  exact ⟨rfl, rfl, hsector⟩

/-- An update in a window state is the countdown to the state after it, on the drive with two of its flags set. -/
theorem Drive.At.windowOpen_succ (h : d.At .windowOpen (left + 1) sector) :
    (d.update cfg false 0).At .windowOpen left sector := by
  rw [Drive.update_windowOpen h.state]
  exact Drive.At.countdown_succ { h with }

theorem Drive.At.windowOpen_zero (h : d.At .windowOpen 0 sector) :
    (d.update cfg false 0).At .windowClose cfg.closeCount sector := by
  rw [Drive.update_windowOpen h.state]
  exact Drive.At.countdown_zero (st := .windowOpen) { h with }

theorem Drive.At.windowClose_succ (h : d.At .windowClose (left + 1) sector) :
    (d.update cfg false 0).At .windowClose left sector := by
  rw [Drive.update_windowClose h.state]
  exact Drive.At.countdown_succ { h with }

theorem Drive.At.windowClose_zero (h : d.At .windowClose 0 sector) :
    (d.update cfg false 0).At .sectorScan 0 sector := by
  rw [Drive.update_windowClose h.state]
  exact Drive.At.countdown_zero (st := .windowClose) { h with }

/-! ### Updates in a row -/

theorem Drive.updates_succ (cfg : Config) (n : Nat) (d : Drive) :
    d.updates cfg (n + 1) = (d.updates cfg n).update cfg false 0 := by
  induction n generalizing d with
  | zero => rfl
  | succ n ih => exact ih (d.update cfg false 0)

/-- A state that an update counts down in is left only after its count. -/
theorem Drive.At.updates {n start : Nat} (htick : ∀ left d, Drive.At st (left + 1) sector d →
    (d.update cfg false 0).At st left sector) (h : (d.updates cfg start).At st (left + n) sector) :
    (d.updates cfg (start + n)).At st left sector := by
  induction n generalizing left with
  | zero => exact h
  | succ n ih =>
    rw [← Nat.add_assoc, Drive.updates_succ]
    exact htick left _ (ih (by rwa [Nat.add_right_comm]))

/-- The window is open after the first `openCount + 1` updates of a sector. -/
theorem Drive.updates_windowOpen (hs : d.state = .sectorScan) (hn : left ≤ cfg.openCount) :
    (d.updates cfg (1 + (cfg.openCount - left))).At .windowOpen left ((d.currentSector + 1) % 10) := by
  have hfirst : (d.updates cfg 1).At .windowOpen cfg.openCount ((d.currentSector + 1) % 10) := by
    rw [Drive.updates_succ, Drive.updates, Drive.update_sectorScan hs]
    exact ⟨rfl, rfl, rfl⟩
  exact Drive.At.updates (fun _ _ => Drive.At.windowOpen_succ) (by rwa [Nat.add_sub_cancel' hn])

/-- It closes during the `closeCount + 1` updates after those. -/
theorem Drive.updates_windowClose (hs : d.state = .sectorScan) (hn : left ≤ cfg.closeCount) :
    (d.updates cfg (cfg.openCount + 2 + (cfg.closeCount - left))).At .windowClose left ((d.currentSector + 1) % 10) := by
  have hfirst : (d.updates cfg (cfg.openCount + 2)).At .windowClose cfg.closeCount ((d.currentSector + 1) % 10) := by
    have hopen := (Drive.updates_windowOpen (cfg := cfg) hs (Nat.zero_le _)).windowOpen_zero (cfg := cfg)
    rwa [← Drive.updates_succ, Nat.sub_zero, Nat.add_comm 1] at hopen
  exact Drive.At.updates (fun _ _ => Drive.At.windowClose_succ) (by rwa [Nat.add_sub_cancel' hn])

/-- The update after that ends the sector. -/
theorem Drive.updates_sector (hs : d.state = .sectorScan) :
    (d.updates cfg (cfg.openCount + cfg.closeCount + 3)).At .sectorScan 0 ((d.currentSector + 1) % 10) := by
  have hclose := (Drive.updates_windowClose (cfg := cfg) hs (Nat.zero_le _)).windowClose_zero (cfg := cfg)
  rwa [← Drive.updates_succ, Nat.sub_zero, Nat.add_right_comm cfg.openCount] at hclose

end Sys2Proof.Machine

namespace Sys2Proof.Proofs.DriveRotation
open Sys2Proof.Machine

/-- Settles O48: `n` updates into the sector the window is open for `n ≤ openCount + 1`, closing up to the last update
but one, and closed after the last. -/
theorem sectorPeriod : Obligations.SectorPeriod := by
  intro cfg d hs
  have hopen : ∀ n, 0 < n → n ≤ cfg.openCount + 1 → (Drive.updates cfg n d).state = .windowOpen := by
    intro n hpos hn
    obtain ⟨i, rfl⟩ := Nat.exists_eq_add_of_le hpos
    have h := (Drive.updates_windowOpen (cfg := cfg) hs (Nat.sub_le _ i)).state
    rwa [Nat.sub_sub_self (by omega)] at h
  have hclose : ∀ n, cfg.openCount + 2 ≤ n → n < cfg.openCount + cfg.closeCount + 3 →
      (Drive.updates cfg n d).state = .windowClose := by
    intro n hlo hhi
    obtain ⟨i, rfl⟩ := Nat.exists_eq_add_of_le hlo
    have h := (Drive.updates_windowClose (cfg := cfg) hs (Nat.sub_le _ i)).state
    rwa [Nat.sub_sub_self (by omega)] at h
  have hend := Drive.updates_sector (cfg := cfg) hs
  refine ⟨hend.state, hend.currentSector, fun n hpos hn => ?_, hopen⟩
  obtain h | h := Nat.lt_or_ge n (cfg.openCount + 2)
  · rw [hopen n hpos (by omega)]
    nofun
  · rw [hclose n h hn]
    nofun

end Sys2Proof.Proofs.DriveRotation
end

section
/-! The images over bus operations: every move of a drive keeps its image's length and its protection, and a protected
image's bytes, so every instruction does (44_drive_transfer.md R215, R219; 40_bus_router.md R101). -/

namespace Sys2Proof.Machine

/-- From `d` to `d'` the image keeps its length, if there is one, its protection and, when protected, its bytes. -/
structure Drive.ImageKept (d d' : Drive) : Prop where
  length  : d'.diskBuffer.map List.length = d.diskBuffer.map List.length
  protect : d'.writeProtect = d.writeProtect
  bytes   : d.writeProtect = true → d'.diskBuffer = d.diskBuffer

namespace Drive.ImageKept

variable {env : DriveEnv} {d d' d'' : Drive}

theorem of_eq (hdisk : d'.diskBuffer = d.diskBuffer) (hprotect : d'.writeProtect = d.writeProtect) : d.ImageKept d' :=
  ⟨congrArg _ hdisk, hprotect, fun _ => hdisk⟩

theorem trans (h : d.ImageKept d') (h' : d'.ImageKept d'') : d.ImageKept d'' where
  length := h'.length.trans h.length
  protect := h'.protect.trans h.protect
  bytes hp := (h'.bytes (h.protect.trans hp)).trans (h.bytes hp)

/-- Of what may happen to a drive at once only a byte write can change the image (R215). -/
theorem move (hm : DriveMove env d d') : d.ImageKept d' := by
  cases hm with
  | update r seed => exact of_eq (Drive.update_diskBuffer ..) (Drive.update_writeProtect ..)
  | read =>
    obtain ⟨hframe, hdisk⟩ := Drive.readByte_frame env d
    exact of_eq hdisk hframe.writeProtect
  | begin =>
    obtain ⟨hframe, hdisk⟩ := Drive.beginWrite_frame env d
    exact of_eq hdisk hframe.writeProtect
  | write v =>
    obtain ⟨hframe, hdisk⟩ := Drive.writeByte_frame env v d
    exact ⟨hframe.length, hframe.writeProtect, hdisk⟩
  | clearHole => exact of_eq rfl rfl
  | latch bit => exact of_eq (Drive.setStepFlipFlop_diskBuffer ..) (Drive.setStepFlipFlop_writeProtect ..)
  | direction way => exact of_eq rfl rfl

end Drive.ImageKept

/-- From `s` to `t` every unit's image is kept. -/
def ImagesKept (s t : State) : Prop := ∀ u, (s.c.drive u).ImageKept (t.c.drive u)

namespace ImagesKept

variable {s t t' : State}

theorem of_drives_eq (h : t.c.drives = s.c.drives) : ImagesKept s t := fun u =>
  have hu : t.c.drive u = s.c.drive u := by simp only [Controller.drive, h]
  .of_eq (congrArg _ hu) (congrArg _ hu)

theorem trans (h : ImagesKept s t) (h' : ImagesKept t t') : ImagesKept s t' := fun u => (h u).trans (h' u)

/-- The selected drive put back, also where the selection names no drive and nothing is written (assumption 19). -/
theorem setSel {d : Drive} (hd : s.sel.ImageKept d) : ImagesKept s (s.setSel d) := by
  intro u
  by_cases hu : u = s.c.selectedDrive
  · subst hu
    by_cases hs : s.SelOk
    · rwa [← State.setSel_sel s d hs] at hd
    · exact of_drives_eq (List.set_eq_of_length_le (Nat.le_of_not_lt hs)) _
  · rw [State.setSel_drive_other s d u hu]
    exact .of_eq rfl rfl

theorem move (hm : Move s t) : ImagesKept s t := by
  cases hm with
  | drive d hd => exact setSel (.move hd)
  | tick | motors | call | select | order | fault | result => exact of_drives_eq rfl

theorem busStep {i : Instr} (hb : BusStep s i t) : ImagesKept s t := by
  cases hb with
  | moves hm => exact hm.preserve (P := ImagesKept s) (fun _ _ hm' h => h.trans (move hm')) (of_drives_eq rfl)
  | write a v => exact of_drives_eq (congrArg Controller.drives (busWrite_c a v s))
  | writeWord a w => exact of_drives_eq (congrArg Controller.drives ((busWrite_c _ _ _).trans (busWrite_c _ _ s)))

end ImagesKept

end Sys2Proof.Machine

namespace Sys2Proof.Proofs.DriveTransfer
open Sys2Proof.Machine

/-- Settles O11: an instruction is made of elementary moves or is a bus write, and each of these keeps every image. -/
theorem imagesKeepLengthAndProtection : Obligations.ImagesKeepLengthAndProtection := by
  intro i s t u h
  obtain ⟨hlength, hprotect, hbytes⟩ := ImagesKept.busStep (exec_next h) u
  exact ⟨hlength, hprotect, hbytes⟩

end Sys2Proof.Proofs.DriveTransfer
end

section
/-! The CRC step (44_drive_transfer.md R200, R201). -/

namespace Sys2Proof.Proofs.DriveTransfer
open Sys2Proof Sys2Proof.Machine

/-- Settles O45: both sides are functions of `crc XOR b` alone, and agree on each of its 256 values. -/
theorem crcStepIsARotation : Obligations.CrcStepIsARotation := by
  intro crc b
  unfold crcStep
  generalize crc ^^^ b = x
  revert x
  decide

end Sys2Proof.Proofs.DriveTransfer
end

section
/-! The DD layout: sectors are numbered over both sides, side 1 in reverse, and each stands at its number times the sector
size (44_drive_transfer.md R202, R204). -/

namespace Sys2Proof.Machine
open Sys2Proof.Claims

variable {side side' : BitVec 1} {d e : Drive}

/-- The number of the sector under the head in a double-sided image (R204). -/
def Drive.sectorNumber (side : BitVec 1) (d : Drive) : Nat := trackIndex side d.currentTrack * 10 + d.currentSector

theorem Drive.offset_dd (side : BitVec 1) (d : Drive) :
    d.offset .dd side = d.sectorNumber side * d.sectorSize .dd := rfl

/-- The tracks of side 0 are numbered upwards, those of side 1 downwards from 69 (R204). -/
theorem trackIndex_cases (side : BitVec 1) (t : Nat) :
    (side = 0#1 ∧ trackIndex side t = t) ∨ (side = 1#1 ∧ trackIndex side t = 69 - t) := by
  obtain rfl | rfl : side = 0#1 ∨ side = 1#1 := by revert side; decide
  · exact .inl ⟨rfl, rfl⟩
  · exact .inr ⟨rfl, rfl⟩

theorem Drive.sectorNumber_lt (side : BitVec 1) (hd : OnDisk d) : d.sectorNumber side < 2 * 35 * 10 := by
  obtain ⟨htrack, hsector⟩ := hd
  unfold Drive.sectorNumber
  obtain ⟨-, h⟩ | ⟨-, h⟩ := trackIndex_cases side d.currentTrack <;> omega

/-- The number tells the place. -/
theorem Drive.sectorNumber_injective (hd : OnDisk d) (he : OnDisk e)
    (h : d.sectorNumber side = e.sectorNumber side') :
    side = side' ∧ d.currentTrack = e.currentTrack ∧ d.currentSector = e.currentSector := by
  obtain ⟨hdt, hds⟩ := hd
  obtain ⟨het, hes⟩ := he
  unfold Drive.sectorNumber at h
  obtain ⟨rfl, hi⟩ | ⟨rfl, hi⟩ := trackIndex_cases side d.currentTrack <;>
    obtain ⟨rfl, hi'⟩ | ⟨rfl, hi'⟩ := trackIndex_cases side' e.currentTrack
  case inl.inl | inr.inr => exact ⟨rfl, by omega, by omega⟩
  case inl.inr | inr.inl => omega

/-- Blocks of one size at two numbers, the lower one first. -/
theorem block_end_le {m n k : Nat} (h : m < n) : m * k + k ≤ n * k :=
  (Nat.succ_mul m k).symm.trans_le (Nat.mul_le_mul_right k h)

end Sys2Proof.Machine

namespace Sys2Proof.Proofs.DriveTransfer
open Sys2Proof.Machine

/-- Settles O53: a sector is a block at its number, the numbers are below 700, and different places have different
numbers. -/
theorem ddSectorsAreDisjointAndInside : Obligations.DdSectorsAreDisjointAndInside := by
  intro side side' d e hd he hsize
  rw [Drive.offset_dd, Drive.offset_dd, ← hsize]
  refine ⟨block_end_le (d.sectorNumber_lt side hd), fun hplace => ?_⟩
  have hne : d.sectorNumber side ≠ e.sectorNumber side' := fun h => by
    obtain ⟨hside, htrack, hsector⟩ := Drive.sectorNumber_injective hd he h
    obtain h | h | h := hplace
    · exact h hside
    · exact h htrack
    · exact h hsector
  exact hne.lt_or_gt.imp block_end_le block_end_le

end Sys2Proof.Proofs.DriveTransfer
end

section
/-! A mount (44_drive_transfer.md R220, 46_host_operations.md R250, 70_reset_and_hazards.md R292). -/

namespace Sys2Proof.Claims
open Sys2Proof.Machine

variable {touched : List Nat} {s t : State} {u : Nat}

theorem Frame.tick (touched : List Nat) (s : State) : Frame touched s s.tick :=
  { FixedKept.move (.tick (s := s)) with
    ram := fun _ => rfl
    others := fun _ _ => rfl }

theorem Frame.setDrive (h : Frame touched s t) (hu : u ∈ touched) (d : Drive) : Frame touched s (t.setDrive u d) :=
  { h with
    nDrives := (List.length_set ..).trans h.nDrives
    others := fun w hw =>
      (Controller.drive_set_other t.c u w d fun he => hw (he ▸ hu)).trans (h.others w hw) }

end Sys2Proof.Claims

namespace Sys2Proof.Machine

/-- The drive a mount leaves: a reset one, track and sector drawn, with the image, which is classified by its length on
DD only (R220). -/
theorem mountImage_drive {s : State} {u : Nat} (hu : u < s.c.drives.length) (image : DiskImage) :
    (mountImage u image s).c.drive u =
      { Drive.drawn u (readOnlyOf s.readOnlyConfig u) (s.draws + 1) with
        diskBuffer := some image.bytes
        fileName := some image.name
        imageDouble := decide (s.c.variant = .dd ∧ 100000 ≤ image.bytes.length ∧ image.bytes.length < 400000) } := by
  rw [mountImage, State.setDrive, Controller.drive_set_same s.tick.c u _ hu]
  cases s.c.variant <;> simp [classifyDouble]

end Sys2Proof.Machine

namespace Sys2Proof.Proofs.DriveTransfer
open Sys2Proof.Machine Sys2Proof.Claims

/-- Settles O55: the move replaces the one drive, by a reset one with its track and sector drawn, and with the image. -/
theorem mountResetsOneDrive : Obligations.MountResetsOneDrive := by
  intro s u image hlo hhi hlen
  refine ⟨mountImage u image s, Config.trackDraw (s.draws + 1) u, Config.sectorDraw (s.draws + 1) u,
    hostStep_mount_next.2 ⟨⟨hlo, hhi⟩, rfl⟩, Nat.le_of_lt_succ (Fin.isLt _), Nat.le_of_lt_succ (Fin.isLt _), ?_, rfl,
    rfl, ⟨rfl, rfl⟩, rfl, rfl, mountImage_drive hlen image⟩
  exact (Frame.tick [u] s).setDrive (List.mem_singleton_self u) _

end Sys2Proof.Proofs.DriveTransfer
end

section
/-! Data reads that a drive refuses, on either controller (44_drive_transfer.md R203 to R209, R221; 60_exceptions.md R270,
R271, R273): a command that reads data ends with the fault of the drive its effect left. -/

namespace Sys2Proof.Machine
open Sys2Proof.Claims

variable {s : State} {i : Instr} {b : Bool} {d d' : Drive}

theorem State.dispatched_clearHole (hs : s.SelOk) (d : Drive) :
    (s.dispatched d).clearHole = s.dispatched { d with sectorHoleDetected := false } :=
  State.dispatched_map hs (fun d => { d with sectorHoleDetected := false }) d

/-- Every command that reads data, `SEL` and `WRT` apart, reads from the drive its update and its effect left, so a read
that this drive refuses is the command's fault. -/
theorem readsData_refused (hl : s.fault = none) (hs : s.SelOk) (hi : ReadsDataFrom s b i d) {e : DriveFault}
    (hread : d.readByte (envOf s) = .fault e d') :
    ∃ t, exec i s = .next t ∧ EndsFaulted (recordOf d.driveNumber (encodeAddr i) e) d' s t := by
  have hclear := State.dispatched_clearHole hs (updated b s)
  have hlatch bit := State.dispatched_map hs (Drive.setStepFlipFlop bit) (updated b s)
  have hdirection way := State.dispatched_map hs (Drive.setStepDirection way) (updated b s)
  obtain ⟨hv, x, p, hmem⟩ | ⟨hv, rfl, hmem⟩ := hi
  · simp only [List.mem_cons, List.not_mem_nil, or_false, Prod.mk.injEq] at hmem
    have hsd : OnSd s := ⟨hl, hv, hs⟩
    obtain ⟨rfl, rfl⟩ | ⟨rfl, rfl⟩ | ⟨rfl, rfl⟩ | ⟨rfl, rfl⟩ | ⟨rfl, rfl⟩ | ⟨rfl, rfl⟩ := hmem
    case inr.inr.inr.inl =>
      exact sdCommand_read_refused (i := .sdRsf x true b p) hsd rfl (congrArg (Res.ok ()) hclear) hread
    case inr.inr.inr.inr.inl =>
      exact sdCommand_read_refused (i := .sdStpff x true b p) hsd rfl (congrArg (Res.ok ()) (hlatch _)) hread
    case inr.inr.inr.inr.inr =>
      exact sdCommand_read_refused (i := .sdStpdir x true b p) hsd rfl (congrArg (Res.ok ()) (hdirection _)) hread
    all_goals exact sdCommand_read_refused hsd rfl rfl hread
  · simp only [List.mem_cons, List.not_mem_nil, or_false, Prod.mk.injEq] at hmem
    have hdd : OnDd s := ⟨hl, hv, hs⟩
    obtain ⟨rfl, rfl⟩ | ⟨rfl, rfl⟩ | ⟨rfl, rfl⟩ | ⟨rfl, rfl⟩ | ⟨rfl, rfl⟩ | ⟨rfl, rfl⟩ | ⟨rfl, rfl⟩ := hmem
    case inr.inr.inr.inr.inr.inr =>
      exact ddCommand_read_refused (i := .ddRsf 4#4) hdd rfl (congrArg (Res.ok true) hclear) hread
    all_goals exact ddCommand_read_refused hdd rfl rfl hread

theorem trackIndex_eq (side : BitVec 1) (t : Nat) : trackIndex side t = if side = 1#1 then 69 - t else t := by
  obtain ⟨rfl, h⟩ | ⟨rfl, h⟩ := trackIndex_cases side t
  · exact h
  · exact h

/-- Where a read sequence starts, on either controller (R202, R203, R204, R206). -/
theorem Drive.startRead_mounted {buf : List Byte} {off size : Nat} (hb : d.diskBuffer = some buf)
    (hsize : size = if s.c.variant = .dd ∧ d.imageDouble = true then 512 else 256)
    (hoff : off =
      ((if s.c.variant = .dd ∧ s.c.orderSide = 1#1 then 69 - d.currentTrack else d.currentTrack) * 10 +
        d.currentSector) * size) :
    d.startRead (envOf s) = readStarted off size d := by
  cases hv : s.c.variant with
  | sd =>
    simp only [hv, reduceCtorEq, false_and, if_false] at hsize hoff
    subst hsize hoff
    exact Drive.startRead_sd hv d
  | dd =>
    have hsize' : d.sectorSize .dd = size := by simp [hsize, hv, Drive.sectorSize_dd, hb]
    have hoff' : d.offset .dd s.c.orderSide = off := by
      rw [Drive.offset_dd, Drive.sectorNumber, hsize', hoff, trackIndex_eq]
      simp only [hv, true_and]
    rw [Drive.startRead, show (envOf s).variant = .dd from hv, hsize', hoff', readStarted]

end Sys2Proof.Machine

namespace Sys2Proof.Proofs.DriveTransfer
open Sys2Proof.Machine Sys2Proof.Claims

/-- Settles O31: in these states the drive refuses the read and stays as it is. -/
theorem readOutOfSequenceFaults : Obligations.ReadOutOfSequenceFaults :=
  fun _ _ _ _ hl hs hi hst => readsData_refused hl hs hi (Drive.readByte_outOfSequence _ hst)

/-- Settles O32: the drive refuses the byte beyond the image, in a scan state after it has begun the sequence. -/
theorem readBeyondTheImageFaults : Obligations.ReadBeyondTheImageFaults := by
  intro s i b d buf off size hl hs hi hb hsize hoff
  refine ⟨fun hscan hle => ?_, fun hst hle => ?_⟩
  · refine readsData_refused hl hs hi (e := .outOfImage off) ?_
    rw [Drive.readByte_scan _ hscan, Drive.startRead_mounted hb hsize hoff]
    exact Drive.readPayload_outOfImage s.cfg hb hle
  · exact readsData_refused hl hs hi (Drive.readByte_readData_outOfImage _ hst hb hle)

end Sys2Proof.Proofs.DriveTransfer
end

section
/-! The byte write of a drive, one equation for each of its states and cases (44_drive_transfer.md R213 to R219, R221). -/

namespace Sys2Proof.Machine

variable {env : DriveEnv} {d : Drive} {v : Byte} {buf : List Byte}

theorem Drive.writeByte_mismatch (hm : densityMismatch env d = true) (v : Byte) :
    d.writeByte env v = .ok false d [] := if_pos hm

theorem Drive.writeByte_writeLeadin (hm : densityMismatch env d = false) (hst : d.state = .writeLeadin) (v : Byte) :
    d.writeByte env v = .ok true ((d.leadin env v).reloaded env.cfg) [] := by
  simp [Drive.writeByte, hm, hst]

theorem Drive.writeByte_writeData (hm : densityMismatch env d = false) (hst : d.state = .writeData) (v : Byte) :
    d.writeByte env v = d.writePayload env.cfg v := by
  simp [Drive.writeByte, hm, hst]

theorem Drive.writeByte_writeCrc (hm : densityMismatch env d = false) (hst : d.state = .writeCrc) (v : Byte) :
    d.writeByte env v = d.writeCrcByte env := by
  simp [Drive.writeByte, hm, hst]

/-- A byte is written in the lead-in, payload and CRC states only (R217). -/
theorem Drive.writeByte_outOfSequence (hm : densityMismatch env d = false)
    (hst : d.state ∉ [DriveState.writeLeadin, .writeData, .writeCrc]) (v : Byte) :
    d.writeByte env v = .fault (.outOfSequence .writeByte d.state) d := by
  rw [Drive.writeByte, hm]
  cases h : d.state with
  | writeLeadin | writeData | writeCrc => simp [h] at hst
  | _ => simp

/-! ### The lead-in -/

theorem secondByteRequired_iff :
    secondByteRequired env = true ↔
      env.variant = .dd ∧ (env.orderDouble = true ∨ env.cfg.ddSecondByteWhenSingle = true) := by
  cases h : env.variant <;> simp [secondByteRequired, h]

/-- The post-sync byte of DD is consumed whatever its value. -/
theorem Drive.leadin_second (h : d.leadinSync = true) (v : Byte) : d.leadin env v = { d with state := .writeData } :=
  if_pos h

theorem Drive.leadin_sync (h : d.leadinSync = false) :
    d.leadin env env.cfg.syncByte =
      if secondByteRequired env then { d with leadinSync := true } else { d with state := .writeData } := by
  simp [Drive.leadin, h]

theorem Drive.leadin_padding (h : d.leadinSync = false) (hv : v ≠ env.cfg.syncByte) : d.leadin env v = d := by
  simp [Drive.leadin, h, hv]

/-- A byte of the lead-in with the reload that ends the call (R213, R214). -/
theorem Drive.leadin_reloaded (hst : d.state = .writeLeadin) (v : Byte) :
    (d.leadin env v).reloaded env.cfg =
      if d.leadinSync = true then { d with state := .writeData, stateCounter := env.cfg.escapeWriteData + 1 }
      else if v = env.cfg.syncByte then
        if env.variant = .dd ∧ (env.orderDouble = true ∨ env.cfg.ddSecondByteWhenSingle = true) then
          { d with leadinSync := true, stateCounter := env.cfg.escapeWriteLeadin + 1 }
        else { d with state := .writeData, stateCounter := env.cfg.escapeWriteData + 1 }
      else { d with stateCounter := env.cfg.escapeWriteLeadin + 1 } := by
  have hcount : escapeCount env.cfg d.state = env.cfg.escapeWriteLeadin + 1 := by rw [hst, escapeCount]
  obtain hsync | hsync := d.leadinSync.eq_false_or_eq_true
  · rw [if_pos hsync, Drive.leadin_second hsync]
    rfl
  · rw [if_neg (Bool.not_eq_true _ ▸ hsync)]
    by_cases hv : v = env.cfg.syncByte
    · rw [if_pos hv, hv, Drive.leadin_sync hsync]
      simp only [← secondByteRequired_iff]
      split
      · rw [Drive.reloaded, hcount]
      · rfl
    · rw [if_neg hv, Drive.leadin_padding hsync hv, Drive.reloaded, hcount]

/-! ### The payload -/

/-- The image after the store of a payload byte: the byte at the precomputed offset, in an unprotected image only
(R219). -/
def Drive.diskAfter (v : Byte) (d : Drive) : Option (List Byte) :=
  if d.writeProtect then d.diskBuffer else d.diskBuffer.map (List.set · d.xferOffset v)

/-- A drive stores or it does not (R219). -/
theorem Drive.storing_cases (d : Drive) :
    (d.diskBuffer = none ∨ d.writeProtect = true) ∨ ∃ buf, d.diskBuffer = some buf ∧ d.writeProtect = false := by
  cases d.diskBuffer with
  | none => exact .inl (.inl rfl)
  | some buf =>
    cases d.writeProtect with
    | true => exact .inl (.inr rfl)
    | false => exact .inr ⟨buf, rfl, rfl⟩

/-- A mounted drive that does not store is protected. -/
theorem Drive.protected_of_not_storing (h : d.diskBuffer = none ∨ d.writeProtect = true)
    (hb : d.diskBuffer = some buf) : d.writeProtect = true :=
  h.resolve_left (hb ▸ nofun)

theorem Drive.diskAfter_not_storing (h : d.diskBuffer = none ∨ d.writeProtect = true) (v : Byte) :
    d.diskAfter v = d.diskBuffer := by
  unfold Drive.diskAfter
  obtain h | h := h <;> simp [h]

theorem Drive.diskAfter_storing (hb : d.diskBuffer = some buf) (hp : d.writeProtect = false) (v : Byte) :
    d.diskAfter v = some (buf.set d.xferOffset v) := by
  simp [Drive.diskAfter, hb, hp]

/-- The store takes place in the image, or not at all. -/
theorem Drive.stored_eq (h : ∀ buf, d.diskBuffer = some buf → d.writeProtect = false → d.xferOffset < buf.length)
    (v : Byte) : d.stored v = some { d with diskBuffer := d.diskAfter v } := by
  obtain hno | ⟨buf, hb, hp⟩ := d.storing_cases
  · rw [Drive.diskAfter_not_storing hno]
    unfold Drive.stored
    split
    · rfl
    · next hb => exact if_pos (Drive.protected_of_not_storing hno hb)
  · rw [Drive.diskAfter_storing hb hp, Drive.stored, hb]
    simp only [hp, h buf hb hp, Bool.false_eq_true, if_false, if_true]

/-- A payload byte that is not stored, or stored inside the image, is counted. -/
theorem Drive.writePayload_ok (cfg : Config) (v : Byte)
    (h : ∀ buf, d.diskBuffer = some buf → d.writeProtect = false → d.xferOffset < buf.length) :
    d.writePayload cfg v =
      .ok true ((({ d with diskBuffer := d.diskAfter v } : Drive).consumed v).reloaded cfg) [] := by
  rw [Drive.writePayload, Drive.stored_eq h]

theorem Drive.writePayload_outOfImage (cfg : Config) (v : Byte) (hb : d.diskBuffer = some buf)
    (hp : d.writeProtect = false) (hx : buf.length ≤ d.xferOffset) :
    d.writePayload cfg v = .fault (.outOfImage d.xferOffset) d := by
  simp [Drive.writePayload, Drive.stored, hb, hp, hx.not_gt]

/-! ### The CRC byte -/

theorem Drive.writeCrcByte_not_storing (h : d.diskBuffer = none ∨ d.writeProtect = true) :
    d.writeCrcByte env =
      .ok true { d with state := .writeEnd, stateCounter := env.cfg.escapeWriteEnd + 1 } [] := by
  unfold Drive.writeCrcByte
  cases hb : d.diskBuffer with
  | none => simp [Drive.reloaded, escapeCount, ← hb]
  | some buf => simp [Drive.reloaded, escapeCount, ← hb, Drive.protected_of_not_storing h hb]

theorem Drive.writeCrcByte_pending (hb : d.diskBuffer = some buf) (hp : d.writeProtect = false)
    (ha : d.autoCommit = false) :
    d.writeCrcByte env =
      .ok true { d with commitPending := true, state := .writeEnd, stateCounter := env.cfg.escapeWriteEnd + 1 } [] := by
  simp [Drive.writeCrcByte, Drive.reloaded, escapeCount, hb, hp, ha]

theorem Drive.writeCrcByte_persist (hb : d.diskBuffer = some buf) (hp : d.writeProtect = false)
    (ha : d.autoCommit = true) :
    d.writeCrcByte env =
      .ok true
        { d with
          commitPending := !env.persistOk, state := .writeEnd, stateCounter := env.cfg.escapeWriteEnd + 1 }
        [.persist d.driveNumber buf env.persistOk] := by
  simp [Drive.writeCrcByte, Drive.reloaded, escapeCount, hb, hp, ha]

end Sys2Proof.Machine
end

section
/-! How a data write ends, on either controller (41_sd_controller.md R122, 42_dd_controller.md R152), by what the drive
makes of the byte. -/

namespace Sys2Proof.Machine
open Sys2Proof.Claims

variable {s : State} {i : Instr} {v : Byte} {d d' : Drive}

/-- A command that does not select and calls a collaborator leaves alone all but the selected drive. -/
theorem commandFrame_called (s : State) (d : Drive) (calls : List HostCall) (x : BusResult) :
    CommandFrame s { s.dispatched d with calls := calls, result := x } :=
  have h := commandFrame_dispatched s d s.fault x
  { h with frame := { h.frame with } }

theorem callDrive_dispatched_called {α : Type} {a : Addr} {f : DriveEnv → Drive → DriveDone α} (hs : s.SelOk) {x : α}
    {calls : List HostCall} (h : f (envOf s) d = .ok x d' calls) :
    callDrive a f (s.dispatched d) = .ok x { s.dispatched d' with calls := calls ++ s.calls } := by
  rw [callDrive_ok a f (s.dispatched d) x d' calls (by rw [State.dispatched_env, State.dispatched_sel hs, h]),
    State.dispatched_setSel]
  rfl

/-- The densities compared are those of the drive before the update. -/
@[simp] theorem densityMismatch_update (env : DriveEnv) (cfg : Config) (r : Bool) (seed : Nat) (d : Drive) :
    densityMismatch env (d.update cfg r seed) = densityMismatch env d := by
  simp [densityMismatch]

theorem densityMismatch_of_isDataWrite (hi : IsDataWrite s v i) :
    densityMismatch (envOf s) (updated false s) = false := by
  rw [densityMismatch_update]
  obtain ⟨hv, -⟩ | ⟨-, -, hm⟩ := hi
  · exact densityMismatch_sd hv _
  · exact hm

/-- A data write is the drive's byte write after the update; the byte returned depends on its success. -/
theorem exec_dataWrite (hl : s.fault = none) (hi : IsDataWrite s v i) :
    ∃ g : Bool → State → Byte, exec i s =
      finishByte ((writeStream (encodeAddr i) v (s.dispatched (updated false s))).bind fun ok t => .ok (g ok t) t) := by
  obtain ⟨hv, rfl⟩ | ⟨hv, rfl, -⟩ := hi
  · exact ⟨fun _ t => Config.byteDraw t.draws, onController_own _ _ _ _ hl hv⟩
  · exact ⟨fun ok t => if ok then Config.byteDraw t.draws else 0x00#8, onController_own _ _ _ _ hl hv⟩

/-- A byte the drive accepts. -/
theorem dataWrite_completes (hl : s.fault = none) (hs : s.SelOk) (hi : IsDataWrite s v i) {calls : List HostCall}
    (hw : (updated false s).writeByte (envOf s) v = .ok true d' calls) :
    ∃ t x, exec i s = .next t ∧ CommandFrame s t ∧ t.fault = none ∧ t.result = .byte x ∧
      t.calls = calls ++ s.calls ∧ t.sel = d' := by
  obtain ⟨g, hg⟩ := exec_dataWrite hl hi
  rw [writeStream, callDrive_dispatched_called hs hw, Res.bind_ok, finishByte_ok] at hg
  exact ⟨_, _, hg, commandFrame_called s d' _ _, hl, rfl, rfl, State.dispatched_sel hs d'⟩

/-- A byte the drive refuses. -/
theorem dataWrite_refused (hl : s.fault = none) (hs : s.SelOk) (hi : IsDataWrite s v i) {e : DriveFault}
    (hw : (updated false s).writeByte (envOf s) v = .fault e d') :
    ∃ t, exec i s = .next t ∧ EndsFaulted (recordOf (updated false s).driveNumber (encodeAddr i) e) d' s t := by
  obtain ⟨g, hg⟩ := exec_dataWrite hl hi
  rw [writeStream, callDrive_dispatched_fault hs hw, Res.bind_faulted, finishByte_faulted] at hg
  exact ⟨_, hg, endsFaulted_dispatched hs _ d'⟩

/-! ### A density mismatch -/

theorem densityMismatch_dd_eq_true {env : DriveEnv} (hv : env.variant = .dd) (ho : env.orderDouble = true)
    (hb : d.diskBuffer ≠ none) (hd : d.imageDouble = false) : densityMismatch env d = true := by
  simp [densityMismatch, hv, ho, hd, Option.isSome_iff_ne_none.2 hb]

/-- A DD command whose effect fails reads no result and returns `0x00` (R166). -/
theorem ddCommand_of_failed {a : Addr} {mux : BitVec 4} {effect : State → Res Bool} {u : State}
    (he : effect (s.dispatched (updated (mux == 2#4) s)) = .ok false u) : ddCommand a mux effect s = .ok 0x00#8 u := by
  rw [ddCommand, State.beginDispatch_updateSel, he, Res.bind_ok]
  rfl

theorem ddWdataRead_mismatch (hs : s.SelOk) (hm : densityMismatch (envOf s) s.sel = true) (a : Addr) (v : Byte) :
    ddWdataRead a v s = .ok 0x00#8 (s.dispatched (updated false s)) := by
  rw [ddWdataRead, State.beginDispatch_updateSel, writeStream, callDrive_dispatched_ok hs
    (Drive.writeByte_mismatch ((densityMismatch_update ..).trans hm) v), Res.bind_ok]
  rfl

theorem ddWrtRead_mismatch (hs : s.SelOk) (hm : densityMismatch (envOf s) s.sel = true) (a : Addr) (mux : BitVec 4) :
    ddWrtRead a mux s = .ok 0x00#8 (s.dispatched (updated (mux == 2#4) s)) :=
  ddCommand_of_failed (callDrive_dispatched_ok hs (if_pos ((densityMismatch_update ..).trans hm)))

end Sys2Proof.Machine

namespace Sys2Proof.Proofs.DriveTransfer
open Sys2Proof.Machine Sys2Proof.Claims

/-- Settles O33: the three cases of the lead-in, each with the escape count of the state it leaves. -/
theorem dataWriteLeadin : Obligations.DataWriteLeadin := by
  intro s i v hl hs hi hst
  obtain ⟨t, x, ht, hframe, hfault, hresult, hcalls, hsel⟩ :=
    dataWrite_completes hl hs hi (Drive.writeByte_writeLeadin (densityMismatch_of_isDataWrite hi) hst v)
  exact ⟨t, x, ht, hframe, hfault, hresult, hcalls, hsel.trans (Drive.leadin_reloaded hst v)⟩

/-- Settles O34: the byte is stored at its offset, or not at all, and is counted in both cases. -/
theorem dataWritePayload : Obligations.DataWritePayload := by
  rintro s i v d hl hs hi rfl hst hbound
  have hm := densityMismatch_of_isDataWrite hi
  obtain ⟨t, x, ht, hframe, hfault, hresult, hcalls, hsel⟩ := dataWrite_completes hl hs hi
    ((Drive.writeByte_writeData hm hst v).trans (Drive.writePayload_ok s.cfg v hbound))
  have hdisk : t.sel.diskBuffer = (updated false s).diskAfter v := congrArg Drive.diskBuffer hsel
  refine ⟨t, x, ht, hframe, hfault, hresult, hcalls, fun buf hb hp => ?_, fun hno => ?_, ?_⟩
  · refine ⟨_, hdisk.trans (Drive.diskAfter_storing hb hp v), List.length_set,
      List.getElem?_set_self (hbound buf hb hp), fun k hk => List.getElem?_set_ne hk.symm⟩
  · exact hdisk.trans (Drive.diskAfter_not_storing hno v)
  · rw [hsel, Drive.reloaded, Drive.consumed]
    simp only [hst]
    split <;> rfl

/-- Settles O35: the drive stores or not, and a stored sector is pending or persisted. -/
theorem dataWriteCrc : Obligations.DataWriteCrc := by
  rintro s i v d hl hs hi rfl hst
  have hwrite := Drive.writeByte_writeCrc (densityMismatch_of_isDataWrite hi) hst v
  have hexcl {buf} (hb : (updated false s).diskBuffer = some buf) (hp : (updated false s).writeProtect = false)
      (hno : (updated false s).diskBuffer = none ∨ (updated false s).writeProtect = true) : False :=
    nomatch hp.symm.trans (Drive.protected_of_not_storing hno hb)
  obtain hno | ⟨buf, hb, hp⟩ := (updated false s).storing_cases
  · obtain ⟨t, x, ht, hframe, hfault, hresult, hcalls, hsel⟩ :=
      dataWrite_completes hl hs hi (hwrite.trans (Drive.writeCrcByte_not_storing hno))
    exact ⟨t, x, ht, hframe, hfault, hresult, fun _ => ⟨hcalls, hsel⟩, fun _ hb hp => (hexcl hb hp hno).elim,
      fun _ hb hp => (hexcl hb hp hno).elim⟩
  obtain ha | ha := (updated false s).autoCommit.eq_false_or_eq_true
  · obtain ⟨t, x, ht, hframe, hfault, hresult, hcalls, hsel⟩ :=
      dataWrite_completes hl hs hi (hwrite.trans (Drive.writeCrcByte_persist hb hp ha))
    refine ⟨t, x, ht, hframe, hfault, hresult, fun hno => (hexcl hb hp hno).elim,
      fun _ _ _ ha' => absurd (ha.symm.trans ha') (by decide), fun buf' hb' _ _ => ?_⟩
    obtain rfl : buf = buf' := Option.some.inj (hb.symm.trans hb')
    exact ⟨_, hcalls, hsel⟩
  · obtain ⟨t, x, ht, hframe, hfault, hresult, hcalls, hsel⟩ :=
      dataWrite_completes hl hs hi (hwrite.trans (Drive.writeCrcByte_pending hb hp ha))
    exact ⟨t, x, ht, hframe, hfault, hresult, fun hno => (hexcl hb hp hno).elim, fun _ _ _ _ => ⟨hcalls, hsel⟩,
      fun _ _ _ ha' => absurd (ha.symm.trans ha') (by decide)⟩

/-- Settles O36: the drive refuses the byte and stays as it is. -/
theorem dataWriteFaults : Obligations.DataWriteFaults := by
  rintro s i v d hl hs hi rfl
  have hm := densityMismatch_of_isDataWrite hi
  refine ⟨fun hst => ?_, fun buf hst hb hp hx => ?_⟩
  · exact dataWrite_refused hl hs hi (Drive.writeByte_outOfSequence hm hst v)
  · refine dataWrite_refused hl hs hi (e := .outOfImage _) ?_
    rw [Drive.writeByte_writeData hm hst, Drive.writePayload_outOfImage _ v hb hp hx]

/-- Settles O37: both drive calls fail and leave the drive as the update left it. -/
theorem ddDensityMismatchFailsHarmlessly : Obligations.DdDensityMismatchFailsHarmlessly := by
  intro s v mux hs ho hb hd
  have hm : densityMismatch (envOf s) s.sel = true := densityMismatch_dd_eq_true hs.dd ho hb hd
  have hends (d : Drive) : CommandFrame s { s.dispatched d with result := .byte 0x00#8 } :=
    commandFrame_dispatched s d s.fault _
  refine ⟨⟨_, ?_, hends _, hs.live, rfl, rfl, State.dispatched_sel hs.sel _⟩,
    ⟨_, ?_, hends _, hs.live, rfl, rfl, State.dispatched_sel hs.sel _⟩⟩
  · refine (onController_own .dd _ _ s hs.live hs.dd).trans ?_
    rw [ddWdataRead_mismatch hs.sel hm, finishByte_ok]
  · refine (onController_own .dd _ _ s hs.live hs.dd).trans ?_
    rw [ddWrtRead_mismatch hs.sel hm, finishByte_ok]

end Sys2Proof.Proofs.DriveTransfer
end

section
/-! A read sequence, byte by byte (44_drive_transfer.md R205 to R208, R222): what a drive inside one still has to stream. -/

namespace Sys2Proof.Machine

variable {env : DriveEnv} {d e : Drive} {disk : Option (List Byte)} {start : Nat} {bytes rest : List Byte} {x crc : Byte}

/-- Drive `d` is inside a read sequence, has accumulated `crc` and has `bytes` still to stream before the CRC: the image
from its offset on, or, with no disk, zeros with the offset kept at `start`. -/
structure Drive.Streams (disk : Option (List Byte)) (start : Nat) (bytes : List Byte) (crc : Byte) (d : Drive) :
    Prop where
  state     : d.state = if bytes = [] then .readCrc else .readData
  mounted   : d.diskBuffer = disk
  summed    : d.crc = crc
  remaining : d.xferRemaining = bytes.length
  image     : ∀ buf, disk = some buf → bytes <+: buf.drop d.xferOffset
  noDisk    : disk = none → (∀ x ∈ bytes, x = 0) ∧ d.xferOffset = start

/-- The byte that ends a read sequence: the accumulated CRC, or `0xFF` with no disk (R208). -/
def endOfSequence (disk : Option (List Byte)) (crc : Byte) : Byte := if disk.isSome then crc else 0xFF

/-- Drive `d` has ended a read sequence. -/
structure Drive.ReadEnded (disk : Option (List Byte)) (start : Nat) (d : Drive) : Prop where
  state   : d.state = .readEnd
  mounted : d.diskBuffer = disk
  noDisk  : disk = none → d.xferOffset = start

/-- The first byte of what starts at an offset, and what starts one further on. -/
theorem getElem_of_startsAt {buf : List Byte} {k : Nat} (h : x :: rest <+: buf.drop k) :
    ∃ hk : k < buf.length, buf[k] = x ∧ rest <+: buf.drop (k + 1) := by
  have hk : k < buf.length := by
    by_contra hk
    rw [List.drop_eq_nil_of_le (Nat.le_of_not_lt hk)] at h
    simp at h
  rw [List.drop_eq_getElem_cons hk, List.cons_prefix_cons] at h
  exact ⟨hk, h.1.symm, h.2⟩

/-- The bookkeeping of a payload byte, wherever the byte comes from (R207). -/
theorem Drive.streamed_streams (hst : d.state = .readData) (hdisk : d.diskBuffer = disk) (hcrc : d.crc = crc)
    (hleft : d.xferRemaining = rest.length + 1) (himage : ∀ buf, disk = some buf → rest <+: buf.drop d.xferOffset)
    (hnone : disk = none → (∀ x ∈ rest, x = 0) ∧ d.xferOffset = start) (cfg : Config) (x : Byte) :
    (d.streamed cfg x).Streams disk start rest (crcStep crc x) ∧ 0 < (d.streamed cfg x).stateCounter := by
  have hnext : (d.streamed cfg x).state = if rest = [] then .readCrc else .readData := by
    simp [Drive.streamed, hleft, hst]
  refine ⟨⟨hnext, hdisk, congrArg (crcStep · x) hcrc, congrArg (· - 1) hleft, himage, hnone⟩, ?_⟩
  refine escapeCount_pos cfg (d.streamed cfg x).state ?_
  rw [hnext]
  split <;> rfl

/-- A call inside the sequence answers the next byte, and the escape counter is not zero after it (R298). -/
theorem Drive.Streams.readByte (h : d.Streams disk start (x :: rest) crc) (env : DriveEnv) :
    ∃ d', d.readByte env = .ok x d' [] ∧ d'.Streams disk start rest (crcStep crc x) ∧ 0 < d'.stateCounter := by
  obtain ⟨hst, hdisk, hcrc, hleft, himage, hnone⟩ := h
  have hpayload : d.readByte env = d.readPayload env.cfg := by rw [Drive.readByte, hst]; rfl
  rw [hpayload]
  cases disk with
  | none =>
    obtain ⟨hzero, hoff⟩ := hnone rfl
    obtain rfl : x = 0 := hzero x List.mem_cons_self
    exact ⟨_, Drive.readPayload_none _ d hdisk, Drive.streamed_streams hst hdisk hcrc hleft nofun
      (fun _ => ⟨fun y hy => hzero y (List.mem_cons_of_mem _ hy), hoff⟩) _ _⟩
  | some buf =>
    obtain ⟨hlt, rfl, hrest⟩ := getElem_of_startsAt (himage buf rfl)
    refine ⟨_, Drive.readPayload_some _ d buf hdisk hlt, Drive.streamed_streams
      (d := { d with xferOffset := d.xferOffset + 1 }) hst hdisk hcrc hleft ?_ nofun _ _⟩
    rintro _ ⟨⟩
    exact hrest

/-- The call after the payload answers the CRC byte and ends the sequence (R208). -/
theorem Drive.Streams.readByte_end (h : d.Streams disk start [] crc) (env : DriveEnv) :
    ∃ d', d.readByte env = .ok (endOfSequence disk crc) d' [] ∧ d'.ReadEnded disk start := by
  obtain ⟨hst, rfl, rfl, -, -, hnone⟩ := h
  have hcall : d.readByte env = d.readCrcByte env.cfg := by rw [Drive.readByte, hst]; rfl
  exact ⟨_, hcall, rfl, rfl, fun hb => (hnone hb).2⟩

/-! ### The start of a sequence -/

/-- In a scan state a call is the first one of the sequence it begins (R205, R206). -/
theorem Drive.readByte_startRead (env : DriveEnv) (hscan : isScan d.state = true) :
    d.readByte env = (d.startRead env).readByte env := by
  rw [Drive.readByte_scan env hscan]
  rfl

theorem Drive.startRead_state_eq (env : DriveEnv) (hlen : bytes.length = d.sectorSize env.variant) :
    (d.startRead env).state = if bytes = [] then .readCrc else .readData := by
  have hne : bytes ≠ [] := by
    rintro rfl
    exact (d.sectorSize_pos env.variant).ne hlen
  rw [if_neg hne]
  rfl

/-- A sequence begun on an image streams the sector at the drive's place. -/
theorem Drive.startRead_streams_image {buf : List Byte} (hb : d.diskBuffer = some buf)
    (hlen : bytes.length = d.sectorSize env.variant) (hbytes : bytes <+: buf.drop (d.offset env.variant env.orderSide)) :
    (d.startRead env).Streams (some buf) start bytes 0 where
  state := Drive.startRead_state_eq env hlen
  mounted := hb
  summed := rfl
  remaining := hlen.symm
  image := by rintro _ ⟨⟩; exact hbytes
  noDisk := nofun

/-- A sequence begun with no disk streams zeros. -/
theorem Drive.startRead_streams_zeros (env : DriveEnv) (hb : d.diskBuffer = none) :
    (d.startRead env).Streams none (d.offset env.variant env.orderSide)
      (List.replicate (d.sectorSize env.variant) 0) 0 where
  state := Drive.startRead_state_eq env List.length_replicate
  mounted := hb
  summed := rfl
  remaining := List.length_replicate.symm
  image := nofun
  noDisk _ := ⟨fun _ => List.eq_of_mem_replicate, rfl⟩

/-! ### The whole sequence -/

/-- Calls of `d`, whose first one is that of a drive `e` inside a sequence, stream what `e` has to stream and then the CRC
byte. -/
theorem Drive.Streams.readMany (h : e.Streams disk start bytes crc) (hfirst : d.readByte env = e.readByte env) :
    ∃ d1 d2, Drive.readMany env bytes.length d = some (bytes, d1) ∧
      d1.readByte env = .ok (endOfSequence disk (bytes.foldl crcStep crc)) d2 [] ∧ d2.ReadEnded disk start := by
  induction bytes generalizing d e crc with
  | nil =>
    obtain ⟨d2, hcall, hend⟩ := h.readByte_end env
    exact ⟨d, d2, rfl, hfirst.trans hcall, hend⟩
  | cons x rest ih =>
    obtain ⟨d', hcall, hstreams, -⟩ := h.readByte env
    obtain ⟨d1, d2, hmany, hend⟩ := ih hstreams rfl
    refine ⟨d1, d2, ?_, hend⟩
    rw [List.length_cons, Drive.readMany, hfirst, hcall]
    simp only [hmany, Option.map_some]

/-- The sector at an offset is as long as it should be when it lies inside the image. -/
theorem length_take_drop {buf : List Byte} {off size : Nat} (h : off + size ≤ buf.length) :
    ((buf.drop off).take size).length = size := by
  rw [List.length_take, List.length_drop]
  omega

end Sys2Proof.Machine

namespace Sys2Proof.Proofs.DriveTransfer
open Sys2Proof.Machine

/-- Settles O49: the sector is what the sequence has to stream when it begins. -/
theorem readSequenceReturnsSectorAndCrc : Obligations.ReadSequenceReturnsSectorAndCrc := by
  intro env d buf hscan hb hbound
  have hlen := length_take_drop hbound
  have hstreams : (d.startRead env).Streams (some buf) 0 _ 0 :=
    Drive.startRead_streams_image hb hlen (List.take_prefix _ _)
  obtain ⟨d1, d2, hmany, hcrc, hend⟩ := hstreams.readMany (Drive.readByte_startRead env hscan)
  rw [hlen] at hmany
  exact ⟨d1, d2, hmany, hcrc, hend.state, hend.mounted⟩

/-- Settles O50: with no disk the sector has 256 bytes on both variants, and zeros are what the sequence has to stream. -/
theorem readSequenceWithNoDisk : Obligations.ReadSequenceWithNoDisk := by
  intro env d hscan hb
  have hsize : d.sectorSize env.variant = 256 := by cases env.variant <;> simp [Drive.sectorSize, hb]
  obtain ⟨d1, d2, hmany, hcrc, hend⟩ :=
    (Drive.startRead_streams_zeros env hb).readMany (Drive.readByte_startRead env hscan)
  rw [List.length_replicate, hsize] at hmany
  exact ⟨d1, d2, hmany, hcrc, hend.state, hend.noDisk rfl⟩

end Sys2Proof.Proofs.DriveTransfer
end

section
/-! A sector read by dispatches of `SD.NOP D` (41_sd_controller.md R123, R124, R129; 70_reset_and_hazards.md R298): the
update of each dispatch counts down the escape that the read before it reloaded, and leaves the sequence as it is. -/

namespace Sys2Proof.Machine
open Sys2Proof.Claims

variable {s t : State} {q b : Bool} {p : BitVec 2} {d' e : Drive} {disk : Option (List Byte)} {start n : Nat}
  {bytes : List Byte} {crc x : Byte} {i : Instr}

/-- An update with counts left does not leave a read sequence (R187, R298). -/
theorem Drive.Streams.update {d : Drive} (h : d.Streams disk start bytes crc) (hcount : 0 < d.stateCounter)
    (cfg : Config) (r : Bool) (seed : Nat) : (d.update cfg r seed).Streams disk start bytes crc := by
  have htransfer : isScan d.state = false := by
    rw [h.state]
    split <;> rfl
  rw [Drive.update_transfer htransfer, Drive.escape, Drive.countdown, if_neg hcount.ne']
  exact { h with }

/-- `SD.NOP D` of a drive that answers the read after its update. -/
theorem exec_sdNop_data (hs : OnSd s) (hread : (updated b s).readByte (envOf s) = .ok x d' []) :
    exec (.sdNop q true b p) s = .next { s.dispatched d' with result := .byte x } := by
  have hcommand : exec (.sdNop q true b p) s = finishByte (sdCommand (encodeAddr (.sdNop q true b p)) true b _ s) :=
    onController_own _ _ _ _ hs.live hs.sd
  rw [hcommand, sdCommand_of_ok rfl]
  exact congrArg finishByte (callDrive_dispatched_ok hs.sel hread)

/-- The state after it is again one of an SD controller. -/
theorem onSd_dispatched (hs : OnSd s) (d : Drive) (x : BusResult) : OnSd { s.dispatched d with result := x } :=
  ⟨hs.live, hs.sd, State.SelOk.setSel (s := s.beginDispatch) hs.sel d⟩

theorem repeatInstr_succ (h : exec i s = .next t) :
    repeatInstr i (n + 1) s = (repeatInstr i n t).map fun r => (t.result :: r.1, r.2) := by
  simp only [repeatInstr, h]

/-- Dispatches whose first read is that of a drive `e` inside a sequence return what `e` has to stream and then the CRC
byte. -/
theorem Drive.Streams.repeatInstr_sdNop (hs : OnSd s) (h : e.Streams disk start bytes crc)
    (hfirst : (updated b s).readByte (envOf s) = e.readByte (envOf s)) :
    ∃ t, repeatInstr (.sdNop q true b p) (bytes.length + 1) s =
        some ((bytes ++ [endOfSequence disk (bytes.foldl crcStep crc)]).map BusResult.byte, t) ∧
      t.fault = none ∧ t.sel.ReadEnded disk start := by
  induction bytes generalizing s e crc with
  | nil =>
    obtain ⟨d2, hcall, hend⟩ := h.readByte_end (envOf s)
    have hsel := State.dispatched_sel hs.sel d2
    exact ⟨_, repeatInstr_succ (exec_sdNop_data hs (hfirst.trans hcall)), hs.live, hsel.symm ▸ hend⟩
  | cons y rest ih =>
    obtain ⟨d1, hcall, hstreams, hcount⟩ := h.readByte (envOf s)
    have hnext := exec_sdNop_data (q := q) (p := p) hs (hfirst.trans hcall)
    have hnext_sel : ({ s.dispatched d1 with result := .byte y } : State).sel = d1 := State.dispatched_sel hs.sel d1
    have hupdated : (updated b { s.dispatched d1 with result := .byte y }).Streams disk start rest (crcStep crc y) := by
      rw [updated, hnext_sel]
      exact hstreams.update hcount _ b _
    obtain ⟨t, hrest, hend⟩ := ih (onSd_dispatched hs d1 _) hupdated rfl
    refine ⟨t, ?_, hend⟩
    rw [List.length_cons, repeatInstr_succ hnext, hrest]
    rfl

end Sys2Proof.Machine

namespace Sys2Proof.Proofs.DriveTransfer
open Sys2Proof.Machine Sys2Proof.Claims

/-- Settles O51: the first update leaves the drive in a scan state, so the first read begins the sequence, and no later
update leaves it. -/
theorem sdSectorReadByDispatches : Obligations.SdSectorReadByDispatches := by
  intro s b p buf off hs hscan hb hoff hbound
  have hlen := length_take_drop hbound
  have hbuf : (updated b s).diskBuffer = some buf := (Drive.update_diskBuffer ..).trans hb
  have hsize : (updated b s).sectorSize (envOf s).variant = 256 := congrArg (Drive.sectorSize · _) hs.sd
  have hplace : (updated b s).offset (envOf s).variant (envOf s).orderSide = off :=
    (congrArg (Drive.offset · _ _) hs.sd).trans hoff.symm
  have hstreams : ((updated b s).startRead (envOf s)).Streams (some buf) 0 _ 0 :=
    Drive.startRead_streams_image hbuf (hlen.trans hsize.symm) (hplace.symm ▸ List.take_prefix 256 (buf.drop off))
  obtain ⟨t, hrun, hlive, hend⟩ := hstreams.repeatInstr_sdNop (q := false) (p := p) hs
    (Drive.readByte_startRead _ hscan)
  rw [hlen] at hrun
  exact ⟨t, hrun, hlive, hend.state, hend.mounted⟩

end Sys2Proof.Proofs.DriveTransfer
end

section
/-! A write sequence and the image it leaves (44_drive_transfer.md R211 to R216, R224). -/

namespace Sys2Proof.Machine

variable {env : DriveEnv} {d d' : Drive} {buf : List Byte} {off n : Nat} {v : Byte}
  {payload : List Byte} {calls : List HostCall}

/-! ### Bytes stored in a row -/

/-- The image with `bytes` stored from `off` on. -/
def overwrite (buf : List Byte) (off : Nat) (bytes : List Byte) : List Byte :=
  buf.take off ++ bytes ++ buf.drop (off + bytes.length)

theorem overwrite_nil (buf : List Byte) (off : Nat) : overwrite buf off [] = buf := by
  simp [overwrite]

/-- The first byte stored, and then the others after it. -/
theorem overwrite_cons (h : off < buf.length) (v : Byte) (rest : List Byte) :
    overwrite buf off (v :: rest) = overwrite (buf.set off v) (off + 1) rest := by
  have htake : (buf.set off v).take (off + 1) = buf.take off ++ [v] := by
    rw [List.take_add_one, List.take_set, List.getElem?_set_self h, List.set_eq_of_length_le (List.length_take_le ..)]
    rfl
  rw [overwrite, overwrite, htake, List.drop_set_of_lt (by omega), List.length_cons]
  simp [Nat.add_assoc, Nat.add_comm 1]

theorem length_overwrite (h : off + payload.length ≤ buf.length) : (overwrite buf off payload).length = buf.length := by
  simp only [overwrite, List.length_append, List.length_take, List.length_drop]
  omega

theorem drop_overwrite_startsWith (h : off ≤ buf.length) (payload : List Byte) :
    payload <+: (overwrite buf off payload).drop off := by
  rw [overwrite, List.append_assoc, List.drop_append_of_le_length (by simp [h])]
  simp

theorem getElem?_overwrite_outside (h : off + payload.length ≤ buf.length) {k : Nat}
    (hk : k < off ∨ off + payload.length ≤ k) : (overwrite buf off payload)[k]? = buf[k]? := by
  have hstart : (buf.take off).length = off := List.length_take_of_le (by omega)
  rw [overwrite]
  obtain hk | hk := hk
  · rw [List.append_assoc, List.getElem?_append_left (by omega), List.getElem?_take_of_lt hk]
  · rw [List.getElem?_append_right (by simpa [hstart] using hk), List.getElem?_drop, List.length_append, hstart,
      Nat.add_sub_cancel' hk]

/-! ### Calls in a row -/

theorem Drive.writeMany_cons (h : d.writeByte env v = .ok true d' calls) (rest : List Byte) :
    Drive.writeMany env (v :: rest) d = Drive.writeMany env rest d' := by
  simp only [Drive.writeMany, h]

/-- Drive `d` is inside a write sequence on an unprotected image `buf`, past the lead-in, with `left` bytes of payload to
come, stored from `off` on. -/
structure Drive.Writing (buf : List Byte) (off left : Nat) (d : Drive) : Prop where
  state       : d.state = if left = 0 then .writeCrc else .writeData
  mounted     : d.diskBuffer = some buf
  unprotected : d.writeProtect = false
  offset      : d.xferOffset = off
  remaining   : d.xferRemaining = left

/-- A payload byte is stored at the offset, and the next one comes after it (R215). -/
theorem Drive.Writing.writeByte (hv : env.variant = .sd) (h : d.Writing buf off (n + 1)) (hoff : off < buf.length)
    (v : Byte) : ∃ d', d.writeByte env v = .ok true d' [] ∧ d'.Writing (buf.set off v) (off + 1) n := by
  obtain ⟨hst, hb, hp, rfl, hleft⟩ := h
  refine ⟨_, (Drive.writeByte_writeData (densityMismatch_sd hv d) hst v).trans
    (Drive.writePayload_ok env.cfg v fun buf' hb' _ => ?_), ?_, Drive.diskAfter_storing hb hp v, hp, rfl,
    congrArg (· - 1) hleft⟩
  · obtain rfl : buf = buf' := Option.some.inj (hb.symm.trans hb')
    exact hoff
  · simp [Drive.reloaded, Drive.consumed, hleft, hst]

/-- The payload is stored in order, and the bytes after it meet a drive that waits for the CRC byte. -/
theorem Drive.Writing.writeMany (hv : env.variant = .sd) (h : d.Writing buf off payload.length)
    (hbound : off + payload.length ≤ buf.length) (rest : List Byte) :
    ∃ d', Drive.writeMany env (payload ++ rest) d = Drive.writeMany env rest d' ∧
      d'.Writing (overwrite buf off payload) (off + payload.length) 0 := by
  induction payload generalizing d buf off with
  | nil => exact ⟨d, rfl, (overwrite_nil buf off).symm ▸ h⟩
  | cons v payload ih =>
    rw [List.length_cons] at hbound
    have hoff : off < buf.length := by omega
    obtain ⟨d1, hcall, hwriting⟩ := h.writeByte hv hoff v
    obtain ⟨d2, hmany, hend⟩ := ih hwriting (by rw [List.length_set]; omega)
    refine ⟨d2, ?_, ?_⟩
    · rw [List.cons_append, Drive.writeMany_cons hcall, hmany]
    · rwa [overwrite_cons hoff, List.length_cons, Nat.add_comm payload.length, ← Nat.add_assoc]

/-- On SD the sync byte ends the lead-in of a write just begun (R211, R214). -/
theorem Drive.startWrite_sync (hv : env.variant = .sd) (hb : d.diskBuffer = some buf) (hp : d.writeProtect = false) :
    ∃ d', (d.startWrite env).writeByte env env.cfg.syncByte = .ok true d' [] ∧
      d'.Writing buf (d.offset .sd env.orderSide) 256 := by
  have hsingle : secondByteRequired env = false := by rw [secondByteRequired, hv]
  refine ⟨_, Drive.writeByte_writeLeadin (densityMismatch_sd hv _) rfl _, ?_⟩
  rw [Drive.leadin_sync rfl, hsingle]
  exact ⟨rfl, hb, hp, congrArg (Drive.offset · _ d) hv, congrArg (Drive.sectorSize · d) hv⟩

/-- The CRC byte ends the sequence and leaves the image (R216). -/
theorem Drive.Writing.writeByte_end (hv : env.variant = .sd) (h : d.Writing buf off 0) (v : Byte) :
    ∃ d' calls, d.writeByte env v = .ok true d' calls ∧ d'.state = .writeEnd ∧ d'.diskBuffer = some buf := by
  obtain ⟨hst, hb, hp, -, -⟩ := h
  rw [Drive.writeByte_writeCrc (densityMismatch_sd hv d) hst v]
  obtain ha | ha := d.autoCommit.eq_false_or_eq_true
  · exact ⟨_, _, Drive.writeCrcByte_persist hb hp ha, rfl, hb⟩
  · exact ⟨_, _, Drive.writeCrcByte_pending hb hp ha, rfl, hb⟩

end Sys2Proof.Machine

namespace Sys2Proof.Proofs.DriveTransfer
open Sys2Proof.Machine

/-- Settles O52: the payload is written over the sector, and that is what a read sequence at the same place has to
stream. -/
theorem sdWriteReadRoundTrip : Obligations.SdWriteReadRoundTrip := by
  intro env d e buf payload crcByte hv hscan hb hp hlen hbound
  rw [← hlen] at hbound
  obtain ⟨d1, hsync, hwriting⟩ := Drive.startWrite_sync hv hb hp
  rw [← hlen] at hwriting
  obtain ⟨d2, hmany, hwritten⟩ := hwriting.writeMany hv hbound [crcByte]
  obtain ⟨d3, calls, hcrc, hend, hdisk⟩ := hwritten.writeByte_end hv crcByte
  refine ⟨_, d3, _, Drive.beginWrite_scan (densityMismatch_sd hv d) hscan, ?_, hend, hdisk, length_overwrite hbound,
    fun k hk => getElem?_overwrite_outside hbound (hlen ▸ hk), fun hscan' hb' htrack hsector => ?_⟩
  · rw [List.cons_append, Drive.writeMany_cons hsync, hmany, Drive.writeMany_cons hcrc, Drive.writeMany]
  · have hplace : e.offset env.variant env.orderSide = d.offset .sd env.orderSide := by
      rw [hv, Drive.offset, Drive.offset, htrack, hsector]
    have hsize : payload.length = e.sectorSize env.variant := by rw [hv, hlen]; rfl
    have hstreams : (e.startRead env).Streams (some _) 0 payload 0 :=
      Drive.startRead_streams_image hb' hsize (hplace.symm ▸ drop_overwrite_startsWith (by omega) payload)
    obtain ⟨e1, e2, hread, hread_crc, -⟩ := hstreams.readMany (Drive.readByte_startRead env hscan')
    rw [hlen] at hread
    exact ⟨e1, e2, hread, hread_crc⟩

end Sys2Proof.Proofs.DriveTransfer
end

section
/-! The host's moves on one drive, its flags and the motor poll (46_host_operations.md R251 to R255, R258). -/

namespace Sys2Proof.Claims
open Sys2Proof.Machine

namespace HostFrame

variable {s t : State} {u : Nat}

theorem refl (u : Nat) (s : State) : HostFrame u s s where
  frame := { FixedKept.refl s with ram := fun _ => rfl, others := fun _ _ => rfl }
  fault := rfl
  ctl := rfl

theorem tick (u : Nat) (s : State) : HostFrame u s s.tick := ⟨Frame.tick [u] s, rfl, rfl⟩

theorem setDrive (h : HostFrame u s t) (d : Drive) : HostFrame u s (t.setDrive u d) where
  frame := h.frame.setDrive (List.mem_singleton_self u) d
  fault := h.fault
  ctl := congrArg (fun c : Controller => { c with drives := t.c.drives.set u d }) h.ctl

theorem called (h : HostFrame u s t) (call : HostCall) : HostFrame u s (t.called call) :=
  { h with frame := { h.frame with } }

end HostFrame

end Sys2Proof.Claims

namespace Sys2Proof.Machine
open Sys2Proof.Claims

variable {s : State} {u : Nat}

/-- A drive put in place is the one its unit then has. -/
theorem State.setDrive_drive_same (s : State) {u : Nat} (hu : u < s.c.drives.length) (d : Drive) :
    (s.setDrive u d).c.drive u = d := Controller.drive_set_same s.c u d hu

theorem State.setDrive_drive_other (s : State) {u w : Nat} (hw : w ≠ u) (d : Drive) :
    (s.setDrive u d).c.drive w = s.c.drive w := Controller.drive_set_other s.c u w d hw.symm

/-- A drawn track is one of 0..34 (R27). -/
theorem trackDraw_le (n u : Nat) : (Config.trackDraw n u).val ≤ 34 := Nat.le_of_lt_succ (Fin.isLt _)

/-- A drawn sector is one of 0..9 (R27). -/
theorem sectorDraw_le (n u : Nat) : (Config.sectorDraw n u).val ≤ 9 := Nat.le_of_lt_succ (Fin.isLt _)

/-- Pending data is written to the host's file, and the outcome is kept in the pending flag (R253). -/
theorem commitDrive_of_pending {buf : List Byte} (hp : (s.c.drive u).commitPending = true)
    (hb : (s.c.drive u).diskBuffer = some buf) :
    commitDrive u s =
      (s.tick.setDrive u { s.c.drive u with commitPending := !Config.persistDraw (s.draws + 1) }).called
        (.persist u buf (Config.persistDraw (s.draws + 1))) := by
  rw [commitDrive, hp, hb]
  rfl

/-- With nothing pending, or no disk, a commit does nothing (R253). -/
theorem commitDrive_of_nothing_pending
    (h : (s.c.drive u).commitPending = false ∨ (s.c.drive u).diskBuffer = none) : commitDrive u s = s := by
  unfold commitDrive
  split
  next hp hb => simp [hp, hb] at h
  next => rfl

theorem commitDrive_hostFrame (u : Nat) (s : State) : HostFrame u s (commitDrive u s) := by
  unfold commitDrive
  split
  · exact ((HostFrame.tick u s).setDrive _).called _
  · exact HostFrame.refl u s

/-- Setting a read-only flag puts it in its unit's drive at once (R255). -/
theorem setReadOnlyFlag_drive_same (hu : u < s.c.drives.length) (on : Bool) :
    (setReadOnlyFlag u on s).c.drive u = { s.c.drive u with writeProtect := on } :=
  State.setDrive_drive_same { s with readOnlyConfig := s.readOnlyConfig.set u on } hu _

theorem setReadOnlyFlag_drive_other {w : Nat} (hw : w ≠ u) (on : Bool) :
    (setReadOnlyFlag u on s).c.drive w = s.c.drive w :=
  State.setDrive_drive_other { s with readOnlyConfig := s.readOnlyConfig.set u on } hw _

/-- After a persist that succeeded the host's file holds its bytes (R254). -/
theorem hostFile_persist_ok (u : Nat) (buf : List Byte) (calls : List HostCall) :
    hostFile u (.persist u buf true :: calls) = some buf := if_pos rfl

/-- The poll compares the time since the last activity with the threshold (R258). -/
theorem pollMotors_of_activity {last : Nat} (now : Nat) (h : s.c.lastMotorActivity = some last) :
    pollMotors now s =
      { s with
        c := { s.c with
          motorsRunning := s.c.motorsRunning && !decide (now > last + 5 * s.cfg.ticksPerSecond) } } := by
  have hlate : now > last + 5 * s.cfg.ticksPerSecond ↔ 5 * s.cfg.ticksPerSecond < now - last := by omega
  rw [pollMotors, h]
  simp only [hlate]
  split
  next hstop =>
    obtain ⟨-, hdue⟩ := Bool.and_eq_true_iff.1 hstop
    rw [hdue, Bool.not_true, Bool.and_false]
  next hgo =>
    have hrunning : s.c.motorsRunning = true → (!decide (5 * s.cfg.ticksPerSecond < now - last)) = true := by
      intro hon
      simpa [hon] using hgo
    rw [Bool.and_eq_left_iff_imp.2 hrunning]

end Sys2Proof.Machine

namespace Sys2Proof.Proofs.HostOperations
open Sys2Proof.Machine Sys2Proof.Claims

/-- Settles O56: the one outcome drawn is in the call, in the pending flag and, on success, in the file. -/
theorem commitClearsPendingOnSuccess : Obligations.CommitClearsPendingOnSuccess := by
  intro s u hu hlen
  refine ⟨commitDrive u s, hostStep_commit_next.2 ⟨hu, rfl⟩, commitDrive_hostFrame u s, fun buf hp hb => ?_,
    commitDrive_of_nothing_pending⟩
  rw [commitDrive_of_pending hp hb]
  refine ⟨_, rfl, s.tick.setDrive_drive_same hlen _, fun hok => ?_⟩
  rw [hok]
  exact hostFile_persist_ok u buf s.calls

/-- Settles O57: each of the two moves puts one drive in place. -/
theorem failedLoadAndUnmountLeaveNoDisk : Obligations.FailedLoadAndUnmountLeaveNoDisk := by
  intro s u hlo hhi hlen
  constructor
  · exact ⟨mountNothing u s, Config.trackDraw (s.draws + 1) u, Config.sectorDraw (s.draws + 1) u,
      hostStep_mountFailed_next.2 ⟨⟨hlo, hhi⟩, rfl⟩, trackDraw_le .., sectorDraw_le ..,
      (HostFrame.tick u s).setDrive _, s.tick.setDrive_drive_same hlen _⟩
  · exact ⟨unmountDrive u s, hostStep_unmount_next.2 ⟨hhi, rfl⟩, (HostFrame.refl u s).setDrive _,
      s.setDrive_drive_same hlen _⟩

/-- Settles O59: an activity is recorded, so there is an elapsed time to compare. -/
theorem motorPollIsATimeout : Obligations.MotorPollIsATimeout :=
  fun s now _ h => ⟨pollMotors now s, rfl, pollMotors_of_activity now h⟩

/-- Settles O60: a read-only flag is put in the host's list and in its unit's drive; the auto-commit flag is the host's
alone. -/
theorem configurationTakesEffect : Obligations.ConfigurationTakesEffect := by
  intro s u on hu hlen hflag
  constructor
  · exact ⟨setReadOnlyFlag u on s, hostStep_setReadOnly_next.2 ⟨hu, rfl⟩, setReadOnlyFlag_drive_same hlen on,
      readOnlyOf_set_same hflag, fun w hw => ⟨setReadOnlyFlag_drive_other hw on, readOnlyOf_set_other hw.symm⟩,
      rfl, rfl, rfl, rfl, rfl, fun _ => rfl⟩
  · exact ⟨{ s with autoCommitConfig := on }, rfl, rfl, rfl, rfl, rfl, rfl, rfl, fun _ => rfl⟩

end Sys2Proof.Proofs.HostOperations
end

section
/-! A reboot: a new controller, then the mounts in unit order, then, where the host asks for it, a cleared RAM
(46_host_operations.md R256, 70_reset_and_hazards.md R291, R293). -/

namespace Sys2Proof.Machine

/-- From `s` to `t` only draws were taken and drive records replaced, as by any number of mounts. -/
structure DrivesReplaced (s t : State) : Prop where
  state   : t = { s with draws := t.draws, c := { s.c with drives := t.c.drives } }
  nDrives : t.c.drives.length = s.c.drives.length

namespace DrivesReplaced

variable {s t v : State}

theorem refl (s : State) : DrivesReplaced s s := ⟨rfl, rfl⟩

theorem trans (h : DrivesReplaced s t) (h' : DrivesReplaced t v) : DrivesReplaced s v where
  state := h'.state.trans (by rw [h.state])
  nDrives := h'.nDrives.trans h.nDrives

theorem cfg_eq (h : DrivesReplaced s t) : t.cfg = s.cfg := by rw [h.state]

theorem ram_eq (h : DrivesReplaced s t) : t.ram = s.ram := by rw [h.state]

theorem fault_eq (h : DrivesReplaced s t) : t.fault = s.fault := by rw [h.state]

theorem pending_eq (h : DrivesReplaced s t) : t.pending = s.pending := by rw [h.state]

theorem variant_eq (h : DrivesReplaced s t) : t.c.variant = s.c.variant := by rw [h.state]

theorem readOnlyConfig_eq (h : DrivesReplaced s t) : t.readOnlyConfig = s.readOnlyConfig := by rw [h.state]

theorem mountImage (u : Nat) (image : DiskImage) (s : State) : DrivesReplaced s (mountImage u image s) :=
  ⟨rfl, List.length_set ..⟩

end DrivesReplaced

/-! ### The mounts of a reboot -/

/-- What a reboot does for unit `u` with its entry of the list of images: a mount, or nothing. -/
def mountEntry (u : Nat) (entry : Option DiskImage) (s : State) : State :=
  match entry with
  | some image => mountImage u image s
  | none => s

@[simp] theorem mountEntry_none (u : Nat) (s : State) : mountEntry u none s = s := rfl

@[simp] theorem mountEntry_some (u : Nat) (image : DiskImage) (s : State) :
    mountEntry u (some image) s = mountImage u image s := rfl

theorem mountFrom_cons (u : Nat) (entry : Option DiskImage) (rest : List (Option DiskImage)) (s : State) :
    mountFrom u (entry :: rest) s =
      if u ≤ numUnits s.c.variant then mountFrom (u + 1) rest (mountEntry u entry s) else s := by
  cases entry <;> rfl

variable {s : State} {u w k : Nat}

theorem mountEntry_drivesReplaced (u : Nat) (entry : Option DiskImage) (s : State) :
    DrivesReplaced s (mountEntry u entry s) := by
  cases entry with
  | none => exact .refl s
  | some image => exact .mountImage u image s

theorem mountEntry_drive_other (hw : w ≠ u) (entry : Option DiskImage) :
    (mountEntry u entry s).c.drive w = s.c.drive w := by
  cases entry with
  | none => rfl
  | some image => exact s.tick.setDrive_drive_other hw _

theorem mountFrom_drivesReplaced (u : Nat) (images : List (Option DiskImage)) (s : State) :
    DrivesReplaced s (mountFrom u images s) := by
  induction images generalizing u s with
  | nil => exact .refl s
  | cons entry rest ih =>
    rw [mountFrom_cons]
    split
    · exact (mountEntry_drivesReplaced u entry s).trans (ih ..)
    · exact .refl s

/-- Mounts from unit `u` on reach no drive below it. -/
theorem mountFrom_drive_below (hw : w < u) (images : List (Option DiskImage)) (s : State) :
    (mountFrom u images s).c.drive w = s.c.drive w := by
  induction images generalizing u s with
  | nil => rfl
  | cons entry rest ih =>
    rw [mountFrom_cons]
    split
    · rw [ih (Nat.lt_succ_of_lt hw), mountEntry_drive_other (Nat.ne_of_lt hw)]
    · rfl

/-- The drive of a unit the controller has is what the unit's own entry makes of it: the entries before leave it as it
is, and those after do not reach it. -/
theorem mountFrom_drive (images : List (Option DiskImage)) (hk : u + k ≤ numUnits s.c.variant) :
    ∃ t, DrivesReplaced s t ∧ t.c.drive (u + k) = s.c.drive (u + k) ∧
      (mountFrom u images s).c.drive (u + k) = (mountEntry (u + k) (images.getD k none) t).c.drive (u + k) := by
  induction images generalizing u k s with
  | nil => exact ⟨s, .refl s, rfl, rfl⟩
  | cons entry rest ih =>
    rw [mountFrom_cons, if_pos (Nat.le_of_add_right_le hk)]
    have hentry := mountEntry_drivesReplaced u entry s
    cases k with
    | zero => exact ⟨s, .refl s, rfl, mountFrom_drive_below (Nat.lt_succ_self u) rest _⟩
    | succ k =>
      have hindex : u + (k + 1) = u + 1 + k := by omega
      rw [hindex, ← hentry.variant_eq] at hk
      obtain ⟨t, hreplaced, hbefore, hafter⟩ := ih hk
      rw [hindex]
      exact ⟨t, hentry.trans hreplaced, hbefore.trans (mountEntry_drive_other (by omega) entry), hafter⟩

/-! ### The reboot -/

/-- A drive of a new controller is a reset one, its track and sector drawn (R290). -/
theorem Controller.fresh_drive {v : Variant} (hu : u ≤ numUnits v) (rom : Vector Byte 256) (readOnly : List Bool)
    (n : Nat) : (Controller.fresh v rom readOnly n).drive u = Drive.drawn u (readOnlyOf readOnly u) n := by
  simp [Controller.drive, Controller.fresh, Nat.lt_succ_of_le hu]

/-- The number of drives of a new controller (R30). -/
theorem Controller.fresh_nDrives (v : Variant) (rom : Vector Byte 256) (readOnly : List Bool) (n : Nat) :
    (Controller.fresh v rom readOnly n).drives.length = numUnits v + 1 := by
  simp [Controller.fresh]

/-- The record of a unit that a list of drives has is the one `drive` reads. -/
theorem Controller.drive_of_getElem? {c : Controller} {d : Drive} (h : c.drives[u]? = some d) :
    u < c.drives.length ∧ c.drive u = d := by
  obtain ⟨hu, -⟩ := List.getElem?_eq_some_iff.1 h
  exact ⟨hu, by simp [Controller.drive, h]⟩

/-- The block after a reboot's mounts: all but RAM and the draw counter is as after the whole reboot. -/
def rebootMounted (v : Variant) (images : List (Option DiskImage)) (s : State) : State :=
  mountFrom 1 images (installController v { s with fault := none })

theorem rebootMounted_drivesReplaced (v : Variant) (images : List (Option DiskImage)) (s : State) :
    DrivesReplaced (installController v { s with fault := none }) (rebootMounted v images s) :=
  mountFrom_drivesReplaced 1 images _

/-- The controller of a reboot is new in every field, and its drives are those the mounts leave (R256, R291). -/
theorem rebootBlock_c (v : Variant) (images : List (Option DiskImage)) (clearRam : Bool) (s : State) :
    (rebootBlock v images clearRam s).c =
      { Controller.fresh v s.cfg.firmwareROM s.readOnlyConfig (s.draws + 1) with
        drives := (rebootMounted v images s).c.drives } := by
  cases clearRam <;> exact congrArg State.c (rebootMounted_drivesReplaced v images s).state

theorem rebootBlock_fault (v : Variant) (images : List (Option DiskImage)) (clearRam : Bool) (s : State) :
    (rebootBlock v images clearRam s).fault = none := by
  cases clearRam <;> exact (rebootMounted_drivesReplaced v images s).fault_eq

theorem rebootBlock_pending (v : Variant) (images : List (Option DiskImage)) (clearRam : Bool) (s : State) :
    (rebootBlock v images clearRam s).pending = s.pending := by
  cases clearRam <;> exact (rebootMounted_drivesReplaced v images s).pending_eq

theorem rebootBlock_cfg (v : Variant) (images : List (Option DiskImage)) (clearRam : Bool) (s : State) :
    (rebootBlock v images clearRam s).cfg = s.cfg := by
  cases clearRam <;> exact (rebootMounted_drivesReplaced v images s).cfg_eq

theorem rebootBlock_keepRam_ram (v : Variant) (images : List (Option DiskImage)) (s : State) :
    (rebootBlock v images false s).ram = s.ram :=
  (rebootMounted_drivesReplaced v images s).ram_eq

/-- No byte of a cleared RAM is written: each reads as its draw (R293). -/
theorem rebootBlock_clearRam_cells (v : Variant) (images : List (Option DiskImage)) (s : State) :
    (rebootBlock v images true s).ram.cells = [] := rfl

theorem rebootMounted_nDrives (v : Variant) (images : List (Option DiskImage)) (s : State) :
    (rebootMounted v images s).c.drives.length = numUnits v + 1 :=
  (rebootMounted_drivesReplaced v images s).nDrives.trans (Controller.fresh_nDrives ..)

/-- The sink is never mounted: after a reboot it is a reset drive (R250, R256). -/
theorem rebootMounted_drive_sink (v : Variant) (images : List (Option DiskImage)) (s : State) :
    (rebootMounted v images s).c.drive 0 = Drive.drawn 0 (readOnlyOf s.readOnlyConfig 0) (s.draws + 1) :=
  (mountFrom_drive_below Nat.zero_lt_one images _).trans (Controller.fresh_drive (Nat.zero_le _) ..)

/-- A unit for which the host gives no image holds a reset drive after a reboot (R256). -/
theorem rebootMounted_drive_empty {v : Variant} {images : List (Option DiskImage)} (hu : 1 + k ≤ numUnits v)
    (himage : images.getD k none = none) (s : State) :
    (rebootMounted v images s).c.drive (1 + k) =
      Drive.drawn (1 + k) (readOnlyOf s.readOnlyConfig (1 + k)) (s.draws + 1) := by
  obtain ⟨t, -, hbefore, hafter⟩ := mountFrom_drive (s := installController v { s with fault := none }) images hu
  rw [himage, mountEntry_none, hbefore] at hafter
  exact hafter.trans (Controller.fresh_drive hu ..)

/-- A unit for which the host gives an image holds it after a reboot, in a drive reset with some draws (R250, R256). -/
theorem rebootMounted_drive_image {v : Variant} {images : List (Option DiskImage)} {image : DiskImage}
    (hu : 1 + k ≤ numUnits v) (himage : images.getD k none = some image) (s : State) :
    ∃ n, (rebootMounted v images s).c.drive (1 + k) =
      { Drive.drawn (1 + k) (readOnlyOf s.readOnlyConfig (1 + k)) n with
        diskBuffer := some image.bytes
        fileName := some image.name
        imageDouble := decide (v = .dd ∧ 100000 ≤ image.bytes.length ∧ image.bytes.length < 400000) } := by
  obtain ⟨t, hreplaced, -, hafter⟩ := mountFrom_drive (s := installController v { s with fault := none }) images hu
  have hlen : 1 + k < t.c.drives.length :=
    (Nat.lt_succ_of_le hu).trans_eq (hreplaced.nDrives.trans (Controller.fresh_nDrives ..)).symm
  rw [himage, mountEntry_some, mountImage_drive hlen, hreplaced.variant_eq, hreplaced.readOnlyConfig_eq] at hafter
  exact ⟨t.draws + 1, hafter⟩

end Sys2Proof.Machine

namespace Sys2Proof.Proofs.HostOperations
open Sys2Proof.Machine

/-- Settles O58: the controller is new but for its drives, and each drive is the sink, or that of a unit with or without
an image of its own. -/
theorem rebootRebuildsTheController : Obligations.RebootRebuildsTheController := by
  intro s v images clearRam
  refine ⟨rebootBlock v images clearRam s, rfl, rebootBlock_fault v images clearRam s, ?_⟩
  rw [rebootBlock_c, rebootBlock_pending, rebootBlock_cfg]
  refine ⟨rfl, rfl, rfl, rfl, rfl, rfl, rfl, rebootMounted_nDrives v images s, rfl, rfl, ?_, ?_, fun u d hd => ?_⟩
  · rintro rfl
    exact rebootBlock_keepRam_ram v images s
  · rintro rfl
    exact rebootBlock_clearRam_cells v images s
  · obtain ⟨hlt, rfl⟩ := Controller.drive_of_getElem? (c := (rebootMounted v images s).c) hd
    have hu : u ≤ numUnits v := Nat.le_of_lt_succ (hlt.trans_eq (rebootMounted_nDrives v images s))
    obtain rfl | hpos := Nat.eq_zero_or_pos u
    · exact ⟨_, _, trackDraw_le .., sectorDraw_le .., fun _ => rebootMounted_drive_sink v images s,
        fun _ hsink => absurd rfl hsink⟩
    · obtain ⟨k, rfl⟩ := Nat.exists_eq_add_of_le (m := 1) hpos
      rw [Nat.add_sub_cancel_left]
      cases himage : images.getD k none with
      | none =>
        exact ⟨_, _, trackDraw_le .., sectorDraw_le .., fun _ => rebootMounted_drive_empty hu himage s, nofun⟩
      | some image =>
        obtain ⟨n, hdrive⟩ := rebootMounted_drive_image hu himage s
        refine ⟨_, _, trackDraw_le n (1 + k), sectorDraw_le n (1 + k), ?_, ?_⟩
        · rintro (hsink | ⟨⟨⟩⟩)
          omega
        · rintro _ - ⟨⟩
          exact hdrive

end Sys2Proof.Proofs.HostOperations
end

section
/-! An instruction by the bus operation it is (40_bus_router.md R95, R100 to R103). -/

namespace Sys2Proof.Machine

/-- An instruction is a bus write, a word read, or the byte read of some address in every state. -/
theorem busForm_cases (i : Instr) :
    (∃ a v, i = .wr a v) ∨ (∃ a w, i = .wrw a w) ∨ (∃ a, i = .rdw a) ∨ ∃ a, ∀ s, exec i s = exec (.rd a) s := by
  by_cases hi : i.needsVariant = none
  · cases i with
    | rd a => exact .inr (.inr (.inr ⟨a, fun _ => rfl⟩))
    | wr a v => exact .inl ⟨a, v, rfl⟩
    | rdw a => exact .inr (.inr (.inl ⟨a, rfl⟩))
    | wrw a w => exact .inr (.inl ⟨a, w, rfl⟩)
    | _ => cases hi
  · exact .inr (.inr (.inr ⟨encodeAddr i, fun s => exec_controllerRow i s hi⟩))

end Sys2Proof.Machine
end

section
/-! In a live state every instruction answers a next state, and the result tells whether a read was abandoned
(40_bus_router.md R100 to R103, R106, 60_exceptions.md R270). -/

namespace Sys2Proof.Machine

variable {s : State}

theorem Regular.busReadWord (a : Addr) : Regular (busReadWord a) :=
  (Regular.busRead a).bind fun _ => (Regular.busRead (second a)).bind fun _ => .ok

@[simp] theorem busWriteWord_fault (a : Addr) (w : Word16) (s : State) : (busWriteWord a w s).fault = s.fault := by
  rw [busWriteWord, busWrite_fault, busWrite_fault]

/-- A next state in which a read ends: with no result exactly where a fault is recorded. -/
def ReadAnswers (o : Host.Outcome State Fault Refusal) : Prop :=
  ∃ t, o = .next t ∧ (t.fault ≠ none ↔ t.result = .none)

theorem finishByte_answers {r : Res Byte} (hl : s.fault = none) (h : r.RecordsFault s) :
    ReadAnswers (finishByte r) := by
  cases r with
  | ok b t => exact ⟨_, rfl, iff_of_false (fun hf => hf (Eq.trans h hl)) nofun⟩
  | faulted t => exact ⟨_, rfl, iff_of_true h rfl⟩

theorem finishWord_answers {r : Res Word16} (hl : s.fault = none) (h : r.RecordsFault s) :
    ReadAnswers (finishWord r) := by
  cases r with
  | ok w t => exact ⟨_, rfl, iff_of_false (fun hf => hf (Eq.trans h hl)) nofun⟩
  | faulted t => exact ⟨_, rfl, iff_of_true h rfl⟩

theorem exec_rd_answers (a : Addr) (hl : s.fault = none) : ReadAnswers (exec (.rd a) s) := by
  rw [exec_rd_live a hl]
  exact finishByte_answers hl ((Regular.busRead a).fault s)

theorem exec_rdw_answers (a : Addr) (hl : s.fault = none) : ReadAnswers (exec (.rdw a) s) := by
  rw [exec_rdw_live a hl]
  exact finishWord_answers hl ((Regular.busReadWord a).fault s)

/-- A write returns nothing and records no fault (R101, R103); any other instruction is a read. -/
theorem exec_live_cases (i : Instr) (hl : s.fault = none) :
    (((∃ a v, i = .wr a v) ∨ ∃ a w, i = .wrw a w) ∧ ∃ t, exec i s = .next t ∧ t.fault = none ∧ t.result = .none) ∨
      ReadAnswers (exec i s) := by
  obtain ⟨a, v, rfl⟩ | ⟨a, w, rfl⟩ | ⟨a, rfl⟩ | ⟨a, ha⟩ := busForm_cases i
  · exact .inl ⟨.inl ⟨a, v, rfl⟩, _, exec_wr_live a v hl, (busWrite_fault a v s).trans hl, rfl⟩
  · exact .inl ⟨.inr ⟨a, w, rfl⟩, _, exec_wrw_live a w hl, (busWriteWord_fault a w s).trans hl, rfl⟩
  · exact .inr (exec_rdw_answers a hl)
  · exact .inr (ha s ▸ exec_rd_answers a hl)

end Sys2Proof.Machine

namespace Sys2Proof.Proofs.Exceptions
open Sys2Proof.Machine

/-- Settles O8: a read returns a value exactly where it is not abandoned, and a write neither returns nor faults. -/
theorem liveOperationsAnswer : Obligations.LiveOperationsAnswer := by
  intro i s hl
  obtain ⟨hwrite, t, hnext, -, hresult⟩ | ⟨t, hnext, hfault⟩ := exec_live_cases i hl
  · refine ⟨t, hnext, fun _ => hresult, fun _ hwr hwrw => ?_⟩
    obtain ⟨a, v, rfl⟩ | ⟨a, w, rfl⟩ := hwrite
    · exact absurd rfl (hwr a v)
    · exact absurd rfl (hwrw a w)
  · exact ⟨t, hnext, hfault.1, fun hf _ _ hresult => hfault.2 hresult hf⟩

end Sys2Proof.Proofs.Exceptions
end

section
/-! The motor fields are advisory: no bus operation reads them (10_state.md R32, 60_exceptions.md R281). A dispatch that
is no PROM read writes both before all else, so it runs on one and the same state whatever they held; a PROM read, a
read outside the floppy range and a write carry them along. -/

namespace Sys2Proof.Machine
open Sys2Proof.Claims

/-- The state with the motor fields set as given. -/
def State.withMotors (running : Bool) (activity : Option Nat) (s : State) : State :=
  { s with c := { s.c with motorsRunning := running, lastMotorActivity := activity } }

@[simp] theorem State.withMotors_cfg (running : Bool) (activity : Option Nat) (s : State) :
    (s.withMotors running activity).cfg = s.cfg := rfl

@[simp] theorem State.withMotors_c_variant (running : Bool) (activity : Option Nat) (s : State) :
    (s.withMotors running activity).c.variant = s.c.variant := rfl

/-- The bookkeeping of a dispatch overwrites the motor fields (R281). -/
theorem State.beginDispatch_withMotors (running : Bool) (activity : Option Nat) (s : State) :
    (s.withMotors running activity).beginDispatch = s.beginDispatch := rfl

theorem sameButMotors_withMotors (running : Bool) (activity : Option Nat) (s : State) :
    SameButMotors s (s.withMotors running activity) := rfl

end Sys2Proof.Machine

namespace Sys2Proof.Claims.SameButMotors
open Sys2Proof.Machine

variable {s s' : State}

/-- The one state is the other with its own motor fields. -/
theorem eq_withMotors (h : SameButMotors s s') : s' = s.withMotors s'.c.motorsRunning s'.c.lastMotorActivity :=
  (congrArg (State.withMotors s'.c.motorsRunning s'.c.lastMotorActivity) h).symm

theorem fault_eq (h : SameButMotors s s') : s'.fault = s.fault := (congrArg State.fault h).symm

theorem setResult (h : SameButMotors s s') (x : BusResult) :
    SameButMotors { s with result := x } { s' with result := x } := by
  rw [h.eq_withMotors]
  rfl

end Sys2Proof.Claims.SameButMotors

namespace Sys2Proof.Machine
open Sys2Proof.Claims

/-! ### The ends of one operation begun in two states -/

variable {α β : Type}

/-- Both outcomes are next states, which differ at most in the motor fields. -/
def AdvanceAlike (o o' : Host.Outcome State Fault Refusal) : Prop :=
  ∃ t t', o = .next t ∧ o' = .next t' ∧ SameButMotors t t'

/-- Both answer the same, or both are abandoned, in states that differ at most in the motor fields. -/
inductive Res.Alike : Res α → Res α → Prop
  | ok (x : α) {t t' : State} : SameButMotors t t' → Res.Alike (.ok x t) (.ok x t')
  | faulted {t t' : State} : SameButMotors t t' → Res.Alike (.faulted t) (.faulted t')

namespace Res.Alike

variable {r r' : Res α}

theorem of_eq (h : r = r') : r.Alike r' := by
  subst h
  cases r with
  | ok x t => exact .ok x rfl
  | faulted t => exact .faulted rfl

theorem bind {k : α → State → Res β} (h : r.Alike r')
    (hk : ∀ x {t t' : State}, SameButMotors t t' → (k x t).Alike (k x t')) : (r.bind k).Alike (r'.bind k) := by
  cases h with
  | ok x ht => exact hk x ht
  | faulted ht => exact .faulted ht

theorem finishByte {r r' : Res Byte} (h : r.Alike r') :
    AdvanceAlike (Machine.finishByte r) (Machine.finishByte r') := by
  cases h with
  | ok x ht => exact ⟨_, _, rfl, rfl, ht.setResult _⟩
  | faulted ht => exact ⟨_, _, rfl, rfl, ht.setResult _⟩

theorem finishWord {r r' : Res Word16} (h : r.Alike r') :
    AdvanceAlike (Machine.finishWord r) (Machine.finishWord r') := by
  cases h with
  | ok x ht => exact ⟨_, _, rfl, rfl, ht.setResult _⟩
  | faulted ht => exact ⟨_, _, rfl, rfl, ht.setResult _⟩

end Res.Alike

/-! ### A byte read, from a state and from the same with other motor fields -/

section
variable (running : Bool) (activity : Option Nat) (s : State)

theorem sdCommand_withMotors (a : Addr) (d b : Bool) (effect : State → Res Unit) :
    sdCommand a d b effect (s.withMotors running activity) = sdCommand a d b effect s := by
  rw [sdCommand, sdCommand, State.beginDispatch_withMotors]

theorem sdWdataRead_withMotors (a : Addr) (v : Byte) :
    sdWdataRead a v (s.withMotors running activity) = sdWdataRead a v s := by
  rw [sdWdataRead, sdWdataRead, State.beginDispatch_withMotors]

theorem sdCmdRead_withMotors (a : Addr) (q : Byte) :
    sdCmdRead a q (s.withMotors running activity) = sdCmdRead a q s := by
  unfold sdCmdRead
  split <;> exact sdCommand_withMotors running activity s a _ _ _

theorem ddCommand_withMotors (a : Addr) (mux : BitVec 4) (effect : State → Res Bool) :
    ddCommand a mux effect (s.withMotors running activity) = ddCommand a mux effect s := by
  rw [ddCommand, ddCommand, State.beginDispatch_withMotors]

theorem ddWdataRead_withMotors (a : Addr) (v : Byte) :
    ddWdataRead a v (s.withMotors running activity) = ddWdataRead a v s := by
  rw [ddWdataRead, ddWdataRead, State.beginDispatch_withMotors]

theorem ddOrderRead_withMotors (den : Bool) (side : BitVec 1) (dir step : Bool) (ds : BitVec 4) :
    ddOrderRead den side dir step ds (s.withMotors running activity) = ddOrderRead den side dir step ds s := by
  rw [ddOrderRead, ddOrderRead, State.beginDispatch_withMotors]

theorem ddCmdRead_withMotors (a : Addr) (q : Byte) :
    ddCmdRead a q (s.withMotors running activity) = ddCmdRead a q s := by
  unfold ddCmdRead
  split <;> exact ddCommand_withMotors running activity s a _ _

/-- Of the rows of a controller only the PROM read leaves the motor fields as they are (R281). -/
theorem sdRead_withMotors (a : Addr) : (sdRead a s).Alike (sdRead a (s.withMotors running activity)) := by
  unfold sdRead
  generalize (opType a).toNat = page
  match page with
  | 0 | 1 => exact .ok _ (sameButMotors_withMotors running activity s)
  | 2 => exact .of_eq (sdWdataRead_withMotors running activity s a _).symm
  | _ + 3 => exact .of_eq (sdCmdRead_withMotors running activity s a _).symm

theorem ddRead_withMotors (a : Addr) : (ddRead a s).Alike (ddRead a (s.withMotors running activity)) := by
  unfold ddRead
  generalize (opType a).toNat = page
  match page with
  | 0 => exact .ok _ (sameButMotors_withMotors running activity s)
  | 1 => exact .of_eq (ddWdataRead_withMotors running activity s a _).symm
  | 2 => exact .of_eq (ddOrderRead_withMotors running activity s _ _ _ _ _).symm
  | _ + 3 => exact .of_eq (ddCmdRead_withMotors running activity s a _).symm

theorem controllerRead_withMotors (a : Addr) :
    (controllerRead a s).Alike (controllerRead a (s.withMotors running activity)) := by
  unfold controllerRead
  rw [State.withMotors_c_variant]
  cases s.c.variant with
  | sd => exact sdRead_withMotors running activity s a
  | dd => exact ddRead_withMotors running activity s a

theorem readOutside_withMotors (g : Region) (a : Addr) :
    readOutside g a (s.withMotors running activity) =
      ((readOutside g a s).1, (readOutside g a s).2.withMotors running activity) := by
  cases g <;> rfl

theorem busRead_withMotors (a : Addr) : (busRead a s).Alike (busRead a (s.withMotors running activity)) := by
  unfold busRead
  cases inFloppy a with
  | true => exact controllerRead_withMotors running activity s a
  | false =>
    rw [State.withMotors_cfg, readOutside_withMotors]
    exact .ok _ (sameButMotors_withMotors running activity _)

end

end Sys2Proof.Machine

namespace Sys2Proof.Claims.SameButMotors
open Sys2Proof.Machine

variable {s s' : State}

/-! ### Bus operations from two such states -/

theorem busRead (h : SameButMotors s s') (a : Addr) : (Machine.busRead a s).Alike (Machine.busRead a s') := by
  rw [h.eq_withMotors]
  exact busRead_withMotors _ _ s a

theorem busReadWord (h : SameButMotors s s') (a : Addr) :
    (Machine.busReadWord a s).Alike (Machine.busReadWord a s') :=
  (h.busRead a).bind fun _ _ _ h' => (h'.busRead (second a)).bind fun _ _ _ h'' => .ok _ h''

theorem busWrite (h : SameButMotors s s') (a : Addr) (v : Byte) :
    SameButMotors (Machine.busWrite a v s) (Machine.busWrite a v s') := by
  rw [h.eq_withMotors, busWrite_eq, busWrite_eq]
  rfl

theorem busWriteWord (h : SameButMotors s s') (a : Addr) (w : Word16) :
    SameButMotors (Machine.busWriteWord a w s) (Machine.busWriteWord a w s') :=
  (h.busWrite a (lowByte w)).busWrite (second a) (highByte w)

/-! ### An instruction from two such states -/

theorem exec (h : SameButMotors s s') (i : Instr) (hl : s.fault = none) :
    AdvanceAlike (Machine.exec i s) (Machine.exec i s') := by
  have hl' : s'.fault = none := h.fault_eq.trans hl
  obtain ⟨a, v, rfl⟩ | ⟨a, w, rfl⟩ | ⟨a, rfl⟩ | ⟨a, ha⟩ := busForm_cases i
  · exact ⟨_, _, exec_wr_live a v hl, exec_wr_live a v hl', (h.busWrite a v).setResult _⟩
  · exact ⟨_, _, exec_wrw_live a w hl, exec_wrw_live a w hl', (h.busWriteWord a w).setResult _⟩
  · rw [exec_rdw_live a hl, exec_rdw_live a hl']
    exact (h.busReadWord a).finishWord
  · rw [ha, ha, exec_rd_live a hl, exec_rd_live a hl']
    exact (h.busRead a).finishByte

end Sys2Proof.Claims.SameButMotors

namespace Sys2Proof.Proofs.Exceptions
open Sys2Proof.Machine

/-- Settles O12: a live instruction advances both states alike, and with a fault recorded, which is the same in both,
both are halted. -/
theorem motorStateIsAdvisory : Obligations.MotorStateIsAdvisory := by
  intro i s s' h
  cases hf : s.fault with
  | none =>
    obtain ⟨u, u', hnext, hnext', hsame⟩ := h.exec i hf
    rw [hnext, hnext']
    exact ⟨fun t ht => ⟨u', rfl, Host.Outcome.next.inj ht ▸ hsame⟩, nofun⟩
  | some r =>
    rw [exec_halted i hf, exec_halted i (h.fault_eq.trans hf)]
    refine ⟨fun _ ht => ?_, fun _ hr => hr⟩
    cases ht

end Sys2Proof.Proofs.Exceptions
end

section
/-! Power-on: the state after it meets the invariant, and every field of its controller and drives is at its reset
column (10_state.md R22 to R30, 70_reset_and_hazards.md R290). -/

namespace Sys2Proof.Machine

/-- A record in the list of a new controller is the reset one of its unit. -/
theorem Controller.fresh_getElem? {v : Variant} {rom : Vector Byte 256} {readOnly : List Bool} {n u : Nat} {d : Drive}
    (h : (Controller.fresh v rom readOnly n).drives[u]? = some d) : d = Drive.drawn u (readOnlyOf readOnly u) n := by
  obtain ⟨hlt, rfl⟩ := Controller.drive_of_getElem? h
  rw [Controller.fresh_nDrives] at hlt
  exact Controller.fresh_drive (Nat.le_of_lt_succ hlt) ..

/-- Power-on meets the invariant: no RAM cell is listed, five flags are held, and the controller is new. -/
theorem State.Inv.reset : State.reset.Inv where
  ram := rfl
  flags := rfl
  ctl := Controller.Inv.fresh ..

end Sys2Proof.Machine

namespace Sys2Proof.Proofs.ResetAndHazards
open Sys2Proof.Machine

/-- Settles O13: power-on installs a new controller. -/
theorem resetMeetsInvariant : Obligations.ResetMeetsInvariant :=
  State.Inv.reset

/-- Settles O15: each drive of the new controller is a reset one, and its track and sector are draws of their ranges. -/
theorem resetValues : Obligations.ResetValues := by
  refine ⟨rfl, rfl, rfl, rfl, rfl, rfl, rfl, Controller.fresh_nDrives .., fun u d hd => ?_⟩
  have hdrawn : d = Drive.drawn u (readOnlyOf State.reset.readOnlyConfig u) 0 := Controller.fresh_getElem? hd
  exact ⟨_, _, trackDraw_le 0 u, sectorDraw_le 0 u, hdrawn, hdrawn⟩

end Sys2Proof.Proofs.ResetAndHazards
end
